-- ==== Sys2Proof/Word.lean ====
section
/-! DEFINITION. The words of the block: bytes, operand fields, command words (00_scope.md rules R6, R8, R9;
30_encoding.md rule R80). -/

namespace Sys2Proof

/-- A byte: 8 bits (rule R6). -/
abbrev Byte := BitVec 8

/-- An operand or result field: 64 bits (rules R6, R9). -/
abbrev Field := BitVec 64

/-- A command or response word: 320 bits (30_encoding.md rules R80, R81). -/
abbrev CommandWord := BitVec 320

/-- `MAX32 = 2^31 - 1` (rule R8). -/
abbrev max32 : Nat := 2147483647

/-- `MAX64 = 2^63 - 1` (rule R8). -/
abbrev max64 : Nat := 9223372036854775807

/-- `u64(a)`: the field read as unsigned (rule R9). -/
abbrev u64 (a : Field) : Nat := a.toNat

/-- `s64(a)`: the field read as two's complement (rule R9). -/
abbrev s64 (a : Field) : Int := a.toInt

/-- A natural number as a result field (rule R9, `zext`). -/
abbrev field (n : Nat) : Field := BitVec.ofNat 64 n

/-- An integer as a result field, in two's complement (rule R9; -1 is all ones). -/
abbrev sfield (z : Int) : Field := BitVec.ofInt 64 z

/-- A number as a byte. -/
abbrev byte (n : Nat) : Byte := BitVec.ofNat 8 n

end Sys2Proof
end

