-- ==== Sys2Proof/Config.lean ====
section
/-! DEFINITION. The parameters of the block (00_scope.md rule R5) and its free values.

The parameters are the arguments of the configuration; a machine carries them in its state (the field
`params` of State), because five of them are registers (10_state.md rule R35), and no step changes
them. Every statement over all states is thus a statement over all parameters. -/

namespace Sys2Proof

/-- The elaboration parameters of rule R5. -/
structure Params where
  /-- Block size in bytes, `B`. -/
  b : Nat
  /-- Hash width in bits, `W`. -/
  w : Nat
  /-- Hash multiplier, `M`. -/
  m : Nat
  /-- Number of hash bits that index the head table, `T`. -/
  t : Nat
  /-- Cap on byte-confirmed candidates, `MAX_MATCHES`. -/
  maxMatches : Nat
  /-- The capacity in bytes of each memory space. -/
  srcCap : Nat
  tgtCap : Nat
  inCap : Nat
  dataCap : Nat
  instCap : Nat
  addrCap : Nat
  outCap : Nat
  deriving DecidableEq, Repr

namespace Config

/-- The parameters of `State.reset`: the suggested values of rule R5 with the `T` and the capacities of
configuration CFG-B of 95_test_vectors.md. DESIGN CHOICE (log 1): rule R5 leaves them OPEN. Unsafe: a
fact about the one run from `State.reset` is a fact about these values only. -/
def resetParams : Params where
  b := 16
  w := 23
  m := 257
  t := 8
  maxMatches := 64
  srcCap := 4096
  tgtCap := 4096
  inCap := 4096
  dataCap := 4096
  instCap := 4096
  addrCap := 4096
  outCap := 4096

/-- `NEAR_DEFAULT` of rule R5. -/
def nearDefault : Nat := 4

/-- `SAME_DEFAULT` of rule R5. -/
def sameDefault : Nat := 3

/-- The byte that stands at an address of a space that nothing has written since the reset numbered
`epoch` (20_memory.md rule R69; 93_implementation_defined.md U20: "any value"). FREE VALUE (log 2): no
proof can know it. Safe. -/
opaque unwrittenByte (epoch space address : Nat) : Byte

end Config

end Sys2Proof
end

