-- ==== Sys2Proof/Syntax.lean ====
section
/-! DEFINITION. The instructions of the block: one constructor per row of spec/opcode_table.json.

The first 42 are the commands of the command port (30_encoding.md rule R83), each with the operand
lanes its row lists, in the order a0, a1, a2, a3. An operand is the whole 64-bit lane as it stands
(rule R85). The 256 constructors ct00 to ctFF are the opcode bytes of an instructions section (rules
R95 to R101): ctXX is the byte 0xXX, and its two delta instructions are those of the code table's
entry 0xXX. -/

namespace Sys2Proof

/-- One instruction: a command of rule R83, or an opcode byte of rule R95. -/
inductive Instr where
  /-- `NOP`, 46_system.md rule R240, op 0x00. -/
  | nop
  /-- `RESET`, 46_system.md rule R241, op 0x01. -/
  | reset
  /-- `SESSION_RESET`, 46_system.md rule R242, op 0x02. -/
  | sessionReset
  /-- `RDREG`, 46_system.md rule R243, op 0x03. -/
  | rdreg (reg : Field)
  /-- `WRREG`, 46_system.md rule R244, op 0x04. -/
  | wrreg (reg value : Field)
  /-- `MEM_READ`, 46_system.md rule R245, op 0x05. -/
  | memRead (space address : Field)
  /-- `MEM_WRITE`, 46_system.md rule R246, op 0x06. -/
  | memWrite (space address byte : Field)
  /-- `VARINT_LEN32`, 40_varint.md rule R125, op 0x10. -/
  | varintLen32 (value : Field)
  /-- `VARINT_LEN64`, 40_varint.md rule R126, op 0x11. -/
  | varintLen64 (value : Field)
  /-- `VARINT_ENC32`, 40_varint.md rule R127, op 0x12. -/
  | varintEnc32 (value : Field)
  /-- `VARINT_ENC64`, 40_varint.md rule R128, op 0x13. -/
  | varintEnc64 (value : Field)
  /-- `VARINT_PARSE32`, 40_varint.md rule R129, op 0x14. -/
  | varintParse32
  /-- `VARINT_PARSE64`, 40_varint.md rule R130, op 0x15. -/
  | varintParse64
  /-- `PARSE_BYTE`, 40_varint.md rule R131, op 0x16. -/
  | parseByte
  /-- `RH_INIT`, 41_rolling_hash.md rule R144, op 0x20. -/
  | rhInit
  /-- `RH_HASH`, 41_rolling_hash.md rule R145, op 0x21. -/
  | rhHash (space offset : Field)
  /-- `RH_UPDATE`, 41_rolling_hash.md rule R146, op 0x22. -/
  | rhUpdate (old leaving entering : Field)
  /-- `BH_INIT`, 42_block_hash.md rule R153, op 0x30. -/
  | bhInit (size offset populate : Field)
  /-- `BH_ADD_THROUGH`, 42_block_hash.md rule R154, op 0x31. -/
  | bhAddThrough (stop : Field)
  /-- `BH_FIRST_MATCH`, 42_block_hash.md rule R156, op 0x32. -/
  | bhFirstMatch (hash tpos : Field)
  /-- `BH_NEXT_MATCH`, 42_block_hash.md rule R157, op 0x33. -/
  | bhNextMatch (block tpos : Field)
  /-- `BH_FIND_BEST`, 42_block_hash.md rule R160, op 0x34. -/
  | bhFindBest (hash tpos : Field)
  /-- `BM_CLEAR`, 42_block_hash.md rule R163, op 0x35. -/
  | bmClear
  /-- `AC_CONFIG`, 43_address_cache.md rule R174, op 0x40. -/
  | acConfig (near same : Field)
  /-- `AC_RESET`, 43_address_cache.md rule R175, op 0x41. -/
  | acReset
  /-- `AC_ENCODE`, 43_address_cache.md rule R176, op 0x42. -/
  | acEncode (addr here : Field)
  /-- `AC_DECODE`, 43_address_cache.md rule R178, op 0x43. -/
  | acDecode (here mode : Field)
  /-- `CT_DEFAULT`, 44_code_table.md rule R194, op 0x50. -/
  | ctDefault
  /-- `CT_WRITE`, 44_code_table.md rule R195, op 0x51. -/
  | ctWrite (opcode entry : Field)
  /-- `CT_READ`, 44_code_table.md rule R196, op 0x52. -/
  | ctRead (opcode : Field)
  /-- `CT_VALIDATE`, 44_code_table.md rule R197, op 0x53. -/
  | ctValidate (maxMode : Field)
  /-- `IM_FIRST`, 44_code_table.md rule R198, op 0x54. -/
  | imFirst (inst size mode : Field)
  /-- `IM_SECOND`, 44_code_table.md rule R199, op 0x55. -/
  | imSecond (first inst size mode : Field)
  /-- `SER_START`, 45_serializer.md rule R211, op 0x60. -/
  | serStart (flags : Field)
  /-- `SER_WINDOW`, 45_serializer.md rule R213, op 0x61. -/
  | serWindow (mode size pos : Field)
  /-- `SER_ADD`, 45_serializer.md rule R217, op 0x62. -/
  | serAdd (tpos size : Field)
  /-- `SER_RUN`, 45_serializer.md rule R218, op 0x63. -/
  | serRun (size byte : Field)
  /-- `SER_COPY`, 45_serializer.md rule R219, op 0x64. -/
  | serCopy (addr size : Field)
  /-- `SER_CHECKSUM`, 45_serializer.md rule R220, op 0x65. -/
  | serChecksum (value : Field)
  /-- `SER_OUTPUT`, 45_serializer.md rule R221, op 0x66. -/
  | serOutput
  /-- `SER_FINISH`, 45_serializer.md rule R223, op 0x67. -/
  | serFinish
  /-- `OUT_CLEAR`, 45_serializer.md rule R224, op 0x68. -/
  | outClear
  | ct00
  | ct01
  | ct02
  | ct03
  | ct04
  | ct05
  | ct06
  | ct07
  | ct08
  | ct09
  | ct0A
  | ct0B
  | ct0C
  | ct0D
  | ct0E
  | ct0F
  | ct10
  | ct11
  | ct12
  | ct13
  | ct14
  | ct15
  | ct16
  | ct17
  | ct18
  | ct19
  | ct1A
  | ct1B
  | ct1C
  | ct1D
  | ct1E
  | ct1F
  | ct20
  | ct21
  | ct22
  | ct23
  | ct24
  | ct25
  | ct26
  | ct27
  | ct28
  | ct29
  | ct2A
  | ct2B
  | ct2C
  | ct2D
  | ct2E
  | ct2F
  | ct30
  | ct31
  | ct32
  | ct33
  | ct34
  | ct35
  | ct36
  | ct37
  | ct38
  | ct39
  | ct3A
  | ct3B
  | ct3C
  | ct3D
  | ct3E
  | ct3F
  | ct40
  | ct41
  | ct42
  | ct43
  | ct44
  | ct45
  | ct46
  | ct47
  | ct48
  | ct49
  | ct4A
  | ct4B
  | ct4C
  | ct4D
  | ct4E
  | ct4F
  | ct50
  | ct51
  | ct52
  | ct53
  | ct54
  | ct55
  | ct56
  | ct57
  | ct58
  | ct59
  | ct5A
  | ct5B
  | ct5C
  | ct5D
  | ct5E
  | ct5F
  | ct60
  | ct61
  | ct62
  | ct63
  | ct64
  | ct65
  | ct66
  | ct67
  | ct68
  | ct69
  | ct6A
  | ct6B
  | ct6C
  | ct6D
  | ct6E
  | ct6F
  | ct70
  | ct71
  | ct72
  | ct73
  | ct74
  | ct75
  | ct76
  | ct77
  | ct78
  | ct79
  | ct7A
  | ct7B
  | ct7C
  | ct7D
  | ct7E
  | ct7F
  | ct80
  | ct81
  | ct82
  | ct83
  | ct84
  | ct85
  | ct86
  | ct87
  | ct88
  | ct89
  | ct8A
  | ct8B
  | ct8C
  | ct8D
  | ct8E
  | ct8F
  | ct90
  | ct91
  | ct92
  | ct93
  | ct94
  | ct95
  | ct96
  | ct97
  | ct98
  | ct99
  | ct9A
  | ct9B
  | ct9C
  | ct9D
  | ct9E
  | ct9F
  | ctA0
  | ctA1
  | ctA2
  | ctA3
  | ctA4
  | ctA5
  | ctA6
  | ctA7
  | ctA8
  | ctA9
  | ctAA
  | ctAB
  | ctAC
  | ctAD
  | ctAE
  | ctAF
  | ctB0
  | ctB1
  | ctB2
  | ctB3
  | ctB4
  | ctB5
  | ctB6
  | ctB7
  | ctB8
  | ctB9
  | ctBA
  | ctBB
  | ctBC
  | ctBD
  | ctBE
  | ctBF
  | ctC0
  | ctC1
  | ctC2
  | ctC3
  | ctC4
  | ctC5
  | ctC6
  | ctC7
  | ctC8
  | ctC9
  | ctCA
  | ctCB
  | ctCC
  | ctCD
  | ctCE
  | ctCF
  | ctD0
  | ctD1
  | ctD2
  | ctD3
  | ctD4
  | ctD5
  | ctD6
  | ctD7
  | ctD8
  | ctD9
  | ctDA
  | ctDB
  | ctDC
  | ctDD
  | ctDE
  | ctDF
  | ctE0
  | ctE1
  | ctE2
  | ctE3
  | ctE4
  | ctE5
  | ctE6
  | ctE7
  | ctE8
  | ctE9
  | ctEA
  | ctEB
  | ctEC
  | ctED
  | ctEE
  | ctEF
  | ctF0
  | ctF1
  | ctF2
  | ctF3
  | ctF4
  | ctF5
  | ctF6
  | ctF7
  | ctF8
  | ctF9
  | ctFA
  | ctFB
  | ctFC
  | ctFD
  | ctFE
  | ctFF
  deriving DecidableEq, Repr

end Sys2Proof
end

