-- ==== Sys2Proof/WellFormed.lean ====
section
/-! DEFINITION. What is well formed: a command word (30_encoding.md rules R80, R84), the parameters
(00_scope.md rule R5).

Every operand of `Instr` is a whole 64-bit lane and every value of a lane is accepted by the encoding
(rule R85: an operand outside a command's range is a fault of the command, not of the word). So a term
of `Instr` has no ill-formed operand; what can be ill formed is the word before it is decoded. -/

namespace Sys2Proof

/-- One instruction as it is laid out: a 320-bit command word (rule R80) or an opcode byte of an
instructions section (rule R95). -/
inductive Encoded where
  | command (w : CommandWord)
  | opcode (b : Byte)
  deriving DecidableEq, Repr

/-- `op`, bits 7:0 of a command word (rule R80). -/
def opBits (w : CommandWord) : Byte := w.extractLsb' 0 8

/-- `rsv`, bits 63:8 of a command word (rule R80). -/
def rsvBits (w : CommandWord) : BitVec 56 := w.extractLsb' 8 56

/-- The command numbers of rule R83: those not listed as undefined by rule R84. -/
def opDefined (op : Byte) : Bool :=
  let n := op.toNat
  n ≤ 0x06 || (0x10 ≤ n && n ≤ 0x16) || (0x20 ≤ n && n ≤ 0x22) || (0x30 ≤ n && n ≤ 0x35) ||
    (0x40 ≤ n && n ≤ 0x43) || (0x50 ≤ n && n ≤ 0x55) || (0x60 ≤ n && n ≤ 0x68)

/-- A word that spells an instruction: `op` in the map and `rsv` zero (rule R84); every opcode byte
(rule R95). -/
def Encoded.wellFormed : Encoded → Bool
  | .command w => opDefined (opBits w) && rsvBits w == 0
  | .opcode _ => true

/-- The parameters satisfy the constraints of rule R5. -/
def Params.wellFormed (p : Params) : Bool :=
  1 ≤ p.b && 1 ≤ p.w && p.w ≤ 63 && p.m < 2 ^ p.w && p.t ≤ p.w && 1 ≤ p.maxMatches &&
    p.srcCap ≤ max32 && p.tgtCap ≤ max32 && p.inCap ≤ max32 && p.dataCap ≤ max32 &&
    p.instCap ≤ max32 && p.addrCap ≤ max32 && p.outCap ≤ max32

end Sys2Proof
end

