-- ==== Sys2Proof/Decode.lean ====
section
/-! DEFINITION. Decoding and encoding: the command word of 30_encoding.md rules R80 to R86 and the
opcode byte of rule R95.

A command is selected by `op` alone; a word with a non-zero `rsv` or an `op` outside the map of rule
R83 spells no command and is rejected by name (rule R84). Every byte is an opcode (rule R95). -/

namespace Sys2Proof

/-- Why a command word spells no command (rule R84). -/
inductive Reject where
  /-- `op` is not in the map of rule R83. -/
  | undefinedOpcode (op : Nat)
  /-- `rsv`, bits 63:8, is not zero. -/
  | reservedBits
  deriving DecidableEq, Repr

/-- Lane `k` of a command word: bits `64*k + 63 : 64*k` (rule R80; lanes 1 to 4 are a0 to a3). -/
def lane (w : CommandWord) (k : Nat) : Field := w.extractLsb' (64 * k) 64

/-- The command of number `op` with the operand lanes it lists (rules R83, R85). -/
def commandOf (op : Nat) (a0 a1 a2 a3 : Field) : Option Instr :=
  match op with
  | 0x00 => some .nop
  | 0x01 => some .reset
  | 0x02 => some .sessionReset
  | 0x03 => some (.rdreg a0)
  | 0x04 => some (.wrreg a0 a1)
  | 0x05 => some (.memRead a0 a1)
  | 0x06 => some (.memWrite a0 a1 a2)
  | 0x10 => some (.varintLen32 a0)
  | 0x11 => some (.varintLen64 a0)
  | 0x12 => some (.varintEnc32 a0)
  | 0x13 => some (.varintEnc64 a0)
  | 0x14 => some .varintParse32
  | 0x15 => some .varintParse64
  | 0x16 => some .parseByte
  | 0x20 => some .rhInit
  | 0x21 => some (.rhHash a0 a1)
  | 0x22 => some (.rhUpdate a0 a1 a2)
  | 0x30 => some (.bhInit a0 a1 a2)
  | 0x31 => some (.bhAddThrough a0)
  | 0x32 => some (.bhFirstMatch a0 a1)
  | 0x33 => some (.bhNextMatch a0 a1)
  | 0x34 => some (.bhFindBest a0 a1)
  | 0x35 => some .bmClear
  | 0x40 => some (.acConfig a0 a1)
  | 0x41 => some .acReset
  | 0x42 => some (.acEncode a0 a1)
  | 0x43 => some (.acDecode a0 a1)
  | 0x50 => some .ctDefault
  | 0x51 => some (.ctWrite a0 a1)
  | 0x52 => some (.ctRead a0)
  | 0x53 => some (.ctValidate a0)
  | 0x54 => some (.imFirst a0 a1 a2)
  | 0x55 => some (.imSecond a0 a1 a2 a3)
  | 0x60 => some (.serStart a0)
  | 0x61 => some (.serWindow a0 a1 a2)
  | 0x62 => some (.serAdd a0 a1)
  | 0x63 => some (.serRun a0 a1)
  | 0x64 => some (.serCopy a0 a1)
  | 0x65 => some (.serChecksum a0)
  | 0x66 => some .serOutput
  | 0x67 => some .serFinish
  | 0x68 => some .outClear
  | _ => none

/-- Decode a command word (rules R80, R83, R84). -/
def decodeCommand (w : CommandWord) : Except Reject Instr :=
  if rsvBits w ≠ 0 then .error .reservedBits
  else
    match commandOf (opBits w).toNat (lane w 1) (lane w 2) (lane w 3) (lane w 4) with
    | some i => .ok i
    | none => .error (.undefinedOpcode (opBits w).toNat)

/-- The opcode bytes 0x00 to 0x3F, in order. -/
def opcodeRows0 : List Instr :=
  [.ct00, .ct01, .ct02, .ct03, .ct04, .ct05, .ct06, .ct07,
   .ct08, .ct09, .ct0A, .ct0B, .ct0C, .ct0D, .ct0E, .ct0F,
   .ct10, .ct11, .ct12, .ct13, .ct14, .ct15, .ct16, .ct17,
   .ct18, .ct19, .ct1A, .ct1B, .ct1C, .ct1D, .ct1E, .ct1F,
   .ct20, .ct21, .ct22, .ct23, .ct24, .ct25, .ct26, .ct27,
   .ct28, .ct29, .ct2A, .ct2B, .ct2C, .ct2D, .ct2E, .ct2F,
   .ct30, .ct31, .ct32, .ct33, .ct34, .ct35, .ct36, .ct37,
   .ct38, .ct39, .ct3A, .ct3B, .ct3C, .ct3D, .ct3E, .ct3F]

/-- The opcode bytes 0x40 to 0x7F, in order. -/
def opcodeRows1 : List Instr :=
  [.ct40, .ct41, .ct42, .ct43, .ct44, .ct45, .ct46, .ct47,
   .ct48, .ct49, .ct4A, .ct4B, .ct4C, .ct4D, .ct4E, .ct4F,
   .ct50, .ct51, .ct52, .ct53, .ct54, .ct55, .ct56, .ct57,
   .ct58, .ct59, .ct5A, .ct5B, .ct5C, .ct5D, .ct5E, .ct5F,
   .ct60, .ct61, .ct62, .ct63, .ct64, .ct65, .ct66, .ct67,
   .ct68, .ct69, .ct6A, .ct6B, .ct6C, .ct6D, .ct6E, .ct6F,
   .ct70, .ct71, .ct72, .ct73, .ct74, .ct75, .ct76, .ct77,
   .ct78, .ct79, .ct7A, .ct7B, .ct7C, .ct7D, .ct7E, .ct7F]

/-- The opcode bytes 0x80 to 0xBF, in order. -/
def opcodeRows2 : List Instr :=
  [.ct80, .ct81, .ct82, .ct83, .ct84, .ct85, .ct86, .ct87,
   .ct88, .ct89, .ct8A, .ct8B, .ct8C, .ct8D, .ct8E, .ct8F,
   .ct90, .ct91, .ct92, .ct93, .ct94, .ct95, .ct96, .ct97,
   .ct98, .ct99, .ct9A, .ct9B, .ct9C, .ct9D, .ct9E, .ct9F,
   .ctA0, .ctA1, .ctA2, .ctA3, .ctA4, .ctA5, .ctA6, .ctA7,
   .ctA8, .ctA9, .ctAA, .ctAB, .ctAC, .ctAD, .ctAE, .ctAF,
   .ctB0, .ctB1, .ctB2, .ctB3, .ctB4, .ctB5, .ctB6, .ctB7,
   .ctB8, .ctB9, .ctBA, .ctBB, .ctBC, .ctBD, .ctBE, .ctBF]

/-- The opcode bytes 0xC0 to 0xFF, in order. -/
def opcodeRows3 : List Instr :=
  [.ctC0, .ctC1, .ctC2, .ctC3, .ctC4, .ctC5, .ctC6, .ctC7,
   .ctC8, .ctC9, .ctCA, .ctCB, .ctCC, .ctCD, .ctCE, .ctCF,
   .ctD0, .ctD1, .ctD2, .ctD3, .ctD4, .ctD5, .ctD6, .ctD7,
   .ctD8, .ctD9, .ctDA, .ctDB, .ctDC, .ctDD, .ctDE, .ctDF,
   .ctE0, .ctE1, .ctE2, .ctE3, .ctE4, .ctE5, .ctE6, .ctE7,
   .ctE8, .ctE9, .ctEA, .ctEB, .ctEC, .ctED, .ctEE, .ctEF,
   .ctF0, .ctF1, .ctF2, .ctF3, .ctF4, .ctF5, .ctF6, .ctF7,
   .ctF8, .ctF9, .ctFA, .ctFB, .ctFC, .ctFD, .ctFE, .ctFF]

/-- The 256 opcode bytes of rule R95, in order. -/
def opcodeRows : List Instr := opcodeRows0 ++ opcodeRows1 ++ opcodeRows2 ++ opcodeRows3

/-- Decode an opcode byte of an instructions section: every byte is an opcode (rule R95). -/
def decodeOpcode (b : Byte) : Instr := opcodeRows.getD b.toNat .ct00

/-- Decode either form of instruction. -/
def decode : Encoded → Except Reject Instr
  | .command w => decodeCommand w
  | .opcode b => .ok (decodeOpcode b)

/-- The instruction the decoder reads from bits given as the table numbers them: a row of one byte is
an opcode byte, a longer one a command word whose further bits are zero. -/
def decodeTableWord (nbits w : Nat) : Option Instr :=
  if nbits ≤ 8 then some (decodeOpcode (BitVec.ofNat 8 w))
  else
    match decodeCommand (BitVec.ofNat 320 (w % 2 ^ nbits)) with
    | .ok i => some i
    | .error _ => none

/-- A command word with the given lanes (rule R80), its reserved field zero. -/
def commandWord (op : Byte) (a0 a1 a2 a3 : Field) : CommandWord :=
  a3 ++ a2 ++ a1 ++ a0 ++ ((0 : BitVec 56) ++ op)

/-- The encoding of an instruction: the command word of rules R80, R83 with the lanes the command does
not list zero, or the opcode byte of rule R95. -/
def encode : Instr → Encoded
  | .nop => .command (commandWord 0x00 0 0 0 0)
  | .reset => .command (commandWord 0x01 0 0 0 0)
  | .sessionReset => .command (commandWord 0x02 0 0 0 0)
  | .rdreg reg => .command (commandWord 0x03 reg 0 0 0)
  | .wrreg reg value => .command (commandWord 0x04 reg value 0 0)
  | .memRead space address => .command (commandWord 0x05 space address 0 0)
  | .memWrite space address byte => .command (commandWord 0x06 space address byte 0)
  | .varintLen32 value => .command (commandWord 0x10 value 0 0 0)
  | .varintLen64 value => .command (commandWord 0x11 value 0 0 0)
  | .varintEnc32 value => .command (commandWord 0x12 value 0 0 0)
  | .varintEnc64 value => .command (commandWord 0x13 value 0 0 0)
  | .varintParse32 => .command (commandWord 0x14 0 0 0 0)
  | .varintParse64 => .command (commandWord 0x15 0 0 0 0)
  | .parseByte => .command (commandWord 0x16 0 0 0 0)
  | .rhInit => .command (commandWord 0x20 0 0 0 0)
  | .rhHash space offset => .command (commandWord 0x21 space offset 0 0)
  | .rhUpdate old leaving entering => .command (commandWord 0x22 old leaving entering 0)
  | .bhInit size offset populate => .command (commandWord 0x30 size offset populate 0)
  | .bhAddThrough stop => .command (commandWord 0x31 stop 0 0 0)
  | .bhFirstMatch hash tpos => .command (commandWord 0x32 hash tpos 0 0)
  | .bhNextMatch block tpos => .command (commandWord 0x33 block tpos 0 0)
  | .bhFindBest hash tpos => .command (commandWord 0x34 hash tpos 0 0)
  | .bmClear => .command (commandWord 0x35 0 0 0 0)
  | .acConfig near same => .command (commandWord 0x40 near same 0 0)
  | .acReset => .command (commandWord 0x41 0 0 0 0)
  | .acEncode addr here => .command (commandWord 0x42 addr here 0 0)
  | .acDecode here mode => .command (commandWord 0x43 here mode 0 0)
  | .ctDefault => .command (commandWord 0x50 0 0 0 0)
  | .ctWrite opcode entry => .command (commandWord 0x51 opcode entry 0 0)
  | .ctRead opcode => .command (commandWord 0x52 opcode 0 0 0)
  | .ctValidate maxMode => .command (commandWord 0x53 maxMode 0 0 0)
  | .imFirst inst size mode => .command (commandWord 0x54 inst size mode 0)
  | .imSecond first inst size mode => .command (commandWord 0x55 first inst size mode)
  | .serStart flags => .command (commandWord 0x60 flags 0 0 0)
  | .serWindow mode size pos => .command (commandWord 0x61 mode size pos 0)
  | .serAdd tpos size => .command (commandWord 0x62 tpos size 0 0)
  | .serRun size byte => .command (commandWord 0x63 size byte 0 0)
  | .serCopy addr size => .command (commandWord 0x64 addr size 0 0)
  | .serChecksum value => .command (commandWord 0x65 value 0 0 0)
  | .serOutput => .command (commandWord 0x66 0 0 0 0)
  | .serFinish => .command (commandWord 0x67 0 0 0 0)
  | .outClear => .command (commandWord 0x68 0 0 0 0)
  | .ct00 => .opcode 0x00
  | .ct01 => .opcode 0x01
  | .ct02 => .opcode 0x02
  | .ct03 => .opcode 0x03
  | .ct04 => .opcode 0x04
  | .ct05 => .opcode 0x05
  | .ct06 => .opcode 0x06
  | .ct07 => .opcode 0x07
  | .ct08 => .opcode 0x08
  | .ct09 => .opcode 0x09
  | .ct0A => .opcode 0x0A
  | .ct0B => .opcode 0x0B
  | .ct0C => .opcode 0x0C
  | .ct0D => .opcode 0x0D
  | .ct0E => .opcode 0x0E
  | .ct0F => .opcode 0x0F
  | .ct10 => .opcode 0x10
  | .ct11 => .opcode 0x11
  | .ct12 => .opcode 0x12
  | .ct13 => .opcode 0x13
  | .ct14 => .opcode 0x14
  | .ct15 => .opcode 0x15
  | .ct16 => .opcode 0x16
  | .ct17 => .opcode 0x17
  | .ct18 => .opcode 0x18
  | .ct19 => .opcode 0x19
  | .ct1A => .opcode 0x1A
  | .ct1B => .opcode 0x1B
  | .ct1C => .opcode 0x1C
  | .ct1D => .opcode 0x1D
  | .ct1E => .opcode 0x1E
  | .ct1F => .opcode 0x1F
  | .ct20 => .opcode 0x20
  | .ct21 => .opcode 0x21
  | .ct22 => .opcode 0x22
  | .ct23 => .opcode 0x23
  | .ct24 => .opcode 0x24
  | .ct25 => .opcode 0x25
  | .ct26 => .opcode 0x26
  | .ct27 => .opcode 0x27
  | .ct28 => .opcode 0x28
  | .ct29 => .opcode 0x29
  | .ct2A => .opcode 0x2A
  | .ct2B => .opcode 0x2B
  | .ct2C => .opcode 0x2C
  | .ct2D => .opcode 0x2D
  | .ct2E => .opcode 0x2E
  | .ct2F => .opcode 0x2F
  | .ct30 => .opcode 0x30
  | .ct31 => .opcode 0x31
  | .ct32 => .opcode 0x32
  | .ct33 => .opcode 0x33
  | .ct34 => .opcode 0x34
  | .ct35 => .opcode 0x35
  | .ct36 => .opcode 0x36
  | .ct37 => .opcode 0x37
  | .ct38 => .opcode 0x38
  | .ct39 => .opcode 0x39
  | .ct3A => .opcode 0x3A
  | .ct3B => .opcode 0x3B
  | .ct3C => .opcode 0x3C
  | .ct3D => .opcode 0x3D
  | .ct3E => .opcode 0x3E
  | .ct3F => .opcode 0x3F
  | .ct40 => .opcode 0x40
  | .ct41 => .opcode 0x41
  | .ct42 => .opcode 0x42
  | .ct43 => .opcode 0x43
  | .ct44 => .opcode 0x44
  | .ct45 => .opcode 0x45
  | .ct46 => .opcode 0x46
  | .ct47 => .opcode 0x47
  | .ct48 => .opcode 0x48
  | .ct49 => .opcode 0x49
  | .ct4A => .opcode 0x4A
  | .ct4B => .opcode 0x4B
  | .ct4C => .opcode 0x4C
  | .ct4D => .opcode 0x4D
  | .ct4E => .opcode 0x4E
  | .ct4F => .opcode 0x4F
  | .ct50 => .opcode 0x50
  | .ct51 => .opcode 0x51
  | .ct52 => .opcode 0x52
  | .ct53 => .opcode 0x53
  | .ct54 => .opcode 0x54
  | .ct55 => .opcode 0x55
  | .ct56 => .opcode 0x56
  | .ct57 => .opcode 0x57
  | .ct58 => .opcode 0x58
  | .ct59 => .opcode 0x59
  | .ct5A => .opcode 0x5A
  | .ct5B => .opcode 0x5B
  | .ct5C => .opcode 0x5C
  | .ct5D => .opcode 0x5D
  | .ct5E => .opcode 0x5E
  | .ct5F => .opcode 0x5F
  | .ct60 => .opcode 0x60
  | .ct61 => .opcode 0x61
  | .ct62 => .opcode 0x62
  | .ct63 => .opcode 0x63
  | .ct64 => .opcode 0x64
  | .ct65 => .opcode 0x65
  | .ct66 => .opcode 0x66
  | .ct67 => .opcode 0x67
  | .ct68 => .opcode 0x68
  | .ct69 => .opcode 0x69
  | .ct6A => .opcode 0x6A
  | .ct6B => .opcode 0x6B
  | .ct6C => .opcode 0x6C
  | .ct6D => .opcode 0x6D
  | .ct6E => .opcode 0x6E
  | .ct6F => .opcode 0x6F
  | .ct70 => .opcode 0x70
  | .ct71 => .opcode 0x71
  | .ct72 => .opcode 0x72
  | .ct73 => .opcode 0x73
  | .ct74 => .opcode 0x74
  | .ct75 => .opcode 0x75
  | .ct76 => .opcode 0x76
  | .ct77 => .opcode 0x77
  | .ct78 => .opcode 0x78
  | .ct79 => .opcode 0x79
  | .ct7A => .opcode 0x7A
  | .ct7B => .opcode 0x7B
  | .ct7C => .opcode 0x7C
  | .ct7D => .opcode 0x7D
  | .ct7E => .opcode 0x7E
  | .ct7F => .opcode 0x7F
  | .ct80 => .opcode 0x80
  | .ct81 => .opcode 0x81
  | .ct82 => .opcode 0x82
  | .ct83 => .opcode 0x83
  | .ct84 => .opcode 0x84
  | .ct85 => .opcode 0x85
  | .ct86 => .opcode 0x86
  | .ct87 => .opcode 0x87
  | .ct88 => .opcode 0x88
  | .ct89 => .opcode 0x89
  | .ct8A => .opcode 0x8A
  | .ct8B => .opcode 0x8B
  | .ct8C => .opcode 0x8C
  | .ct8D => .opcode 0x8D
  | .ct8E => .opcode 0x8E
  | .ct8F => .opcode 0x8F
  | .ct90 => .opcode 0x90
  | .ct91 => .opcode 0x91
  | .ct92 => .opcode 0x92
  | .ct93 => .opcode 0x93
  | .ct94 => .opcode 0x94
  | .ct95 => .opcode 0x95
  | .ct96 => .opcode 0x96
  | .ct97 => .opcode 0x97
  | .ct98 => .opcode 0x98
  | .ct99 => .opcode 0x99
  | .ct9A => .opcode 0x9A
  | .ct9B => .opcode 0x9B
  | .ct9C => .opcode 0x9C
  | .ct9D => .opcode 0x9D
  | .ct9E => .opcode 0x9E
  | .ct9F => .opcode 0x9F
  | .ctA0 => .opcode 0xA0
  | .ctA1 => .opcode 0xA1
  | .ctA2 => .opcode 0xA2
  | .ctA3 => .opcode 0xA3
  | .ctA4 => .opcode 0xA4
  | .ctA5 => .opcode 0xA5
  | .ctA6 => .opcode 0xA6
  | .ctA7 => .opcode 0xA7
  | .ctA8 => .opcode 0xA8
  | .ctA9 => .opcode 0xA9
  | .ctAA => .opcode 0xAA
  | .ctAB => .opcode 0xAB
  | .ctAC => .opcode 0xAC
  | .ctAD => .opcode 0xAD
  | .ctAE => .opcode 0xAE
  | .ctAF => .opcode 0xAF
  | .ctB0 => .opcode 0xB0
  | .ctB1 => .opcode 0xB1
  | .ctB2 => .opcode 0xB2
  | .ctB3 => .opcode 0xB3
  | .ctB4 => .opcode 0xB4
  | .ctB5 => .opcode 0xB5
  | .ctB6 => .opcode 0xB6
  | .ctB7 => .opcode 0xB7
  | .ctB8 => .opcode 0xB8
  | .ctB9 => .opcode 0xB9
  | .ctBA => .opcode 0xBA
  | .ctBB => .opcode 0xBB
  | .ctBC => .opcode 0xBC
  | .ctBD => .opcode 0xBD
  | .ctBE => .opcode 0xBE
  | .ctBF => .opcode 0xBF
  | .ctC0 => .opcode 0xC0
  | .ctC1 => .opcode 0xC1
  | .ctC2 => .opcode 0xC2
  | .ctC3 => .opcode 0xC3
  | .ctC4 => .opcode 0xC4
  | .ctC5 => .opcode 0xC5
  | .ctC6 => .opcode 0xC6
  | .ctC7 => .opcode 0xC7
  | .ctC8 => .opcode 0xC8
  | .ctC9 => .opcode 0xC9
  | .ctCA => .opcode 0xCA
  | .ctCB => .opcode 0xCB
  | .ctCC => .opcode 0xCC
  | .ctCD => .opcode 0xCD
  | .ctCE => .opcode 0xCE
  | .ctCF => .opcode 0xCF
  | .ctD0 => .opcode 0xD0
  | .ctD1 => .opcode 0xD1
  | .ctD2 => .opcode 0xD2
  | .ctD3 => .opcode 0xD3
  | .ctD4 => .opcode 0xD4
  | .ctD5 => .opcode 0xD5
  | .ctD6 => .opcode 0xD6
  | .ctD7 => .opcode 0xD7
  | .ctD8 => .opcode 0xD8
  | .ctD9 => .opcode 0xD9
  | .ctDA => .opcode 0xDA
  | .ctDB => .opcode 0xDB
  | .ctDC => .opcode 0xDC
  | .ctDD => .opcode 0xDD
  | .ctDE => .opcode 0xDE
  | .ctDF => .opcode 0xDF
  | .ctE0 => .opcode 0xE0
  | .ctE1 => .opcode 0xE1
  | .ctE2 => .opcode 0xE2
  | .ctE3 => .opcode 0xE3
  | .ctE4 => .opcode 0xE4
  | .ctE5 => .opcode 0xE5
  | .ctE6 => .opcode 0xE6
  | .ctE7 => .opcode 0xE7
  | .ctE8 => .opcode 0xE8
  | .ctE9 => .opcode 0xE9
  | .ctEA => .opcode 0xEA
  | .ctEB => .opcode 0xEB
  | .ctEC => .opcode 0xEC
  | .ctED => .opcode 0xED
  | .ctEE => .opcode 0xEE
  | .ctEF => .opcode 0xEF
  | .ctF0 => .opcode 0xF0
  | .ctF1 => .opcode 0xF1
  | .ctF2 => .opcode 0xF2
  | .ctF3 => .opcode 0xF3
  | .ctF4 => .opcode 0xF4
  | .ctF5 => .opcode 0xF5
  | .ctF6 => .opcode 0xF6
  | .ctF7 => .opcode 0xF7
  | .ctF8 => .opcode 0xF8
  | .ctF9 => .opcode 0xF9
  | .ctFA => .opcode 0xFA
  | .ctFB => .opcode 0xFB
  | .ctFC => .opcode 0xFC
  | .ctFD => .opcode 0xFD
  | .ctFE => .opcode 0xFE
  | .ctFF => .opcode 0xFF

end Sys2Proof
end

