-- ==== Sys2Proof/Machine/State.lean ====
section
/-! DEFINITION. The state of the block (10_state.md), plain data throughout.

Registers hold the number their rule describes, within the range of rule R36; the 64-bit view that
RDREG gives of each is `State.readReg` (Operands.lean). Arrays and memory spaces are sparse lists with
strictly rising keys; what an unlisted key stands for is said at each field. -/

namespace Sys2Proof.Machine

/-- A sparse array or memory: keys strictly rising. A memory space is a `Sparse Byte`, a list of
`Host.Cell`. -/
abbrev Sparse (α : Type) := List (Nat × α)

/-- `STATUS.SER_STATE` (10_state.md rule R24, 45_serializer.md rule R210). -/
inductive SerState where
  | uninit
  | ready
  | inWindow
  deriving DecidableEq, Repr

/-- `WIN_SRC_MODE` (10_state.md rule R34). -/
inductive WinSource where
  | none
  | source
  | target
  deriving DecidableEq, Repr

/-- The seven memory spaces (20_memory.md rule R60). -/
inductive Space where
  | src
  | tgt
  | inp
  | data
  | inst
  | addr
  | out
  deriving DecidableEq, Repr

/-- The status codes (30_encoding.md rule R82). -/
inductive Status where
  | ok
  | endOfData
  | error
  | misuse
  | illegal
  | refused
  | capacity
  deriving DecidableEq, Repr

/-- The cause codes (60_exceptions.md rule R261). -/
inductive Cause where
  | varintOverflow
  | addrHereNonpositive
  | addrOutOfRange
  | addrNearOverflow
  | addrBadMode
  | badCacheSizes
  | invalidCodeTable
  | notInitialized
  | rangeRegression
  | negativeValue
  | badOperand
  | badState
  | pendingWindow
  | srcImmutable
  | illegalCommand
  | capacity
  deriving DecidableEq, Repr

/-- A response (30_encoding.md rule R81): the status and the four result fields. -/
structure Response where
  status : Status
  r0 : Field
  r1 : Field
  r2 : Field
  r3 : Field
  deriving DecidableEq, Repr

/-- What the host presents to the block, one at a time (00_scope.md rule R7; log 5). -/
inductive Input where
  /-- A command word on the command port (30_encoding.md rule R80). -/
  | command (w : CommandWord)
  /-- The hardware reset input (70_reset_and_hazards.md rule R290; log 8). -/
  | hardwareReset
  /-- A turn of the reader of the window being accumulated (30_encoding.md rule R95; log 9). -/
  | readOpcode
  deriving DecidableEq, Repr

/-- A code-table entry, six bytes (30_encoding.md rule R93). -/
structure CtEntry where
  inst1 : Byte
  size1 : Byte
  mode1 : Byte
  inst2 : Byte
  size2 : Byte
  mode2 : Byte
  deriving DecidableEq, Repr

/-- The address-cache state (10_state.md rule R32). -/
structure AddrCache where
  /-- `AC_NEAR_SIZE`. -/
  nearSize : Nat
  /-- `AC_SAME_SIZE`. -/
  sameSize : Nat
  /-- `AC_NEXT_SLOT`. -/
  nextSlot : Nat
  /-- `AC_NEAR`; an unlisted slot holds 0, and no listed one does. -/
  near : Sparse Nat
  /-- `AC_SAME`; an unlisted slot holds 0, and no listed one does. -/
  same : Sparse Nat
  deriving DecidableEq, Repr

/-- The cache of the given sizes, all zero (43_address_cache.md rules R174, R175). -/
def AddrCache.cleared (nearSize sameSize : Nat) : AddrCache :=
  { nearSize, sameSize, nextSlot := 0, near := [], same := [] }

/-- A delta instruction read from an instructions section, with its operands (30_encoding.md rules R91,
R95). -/
inductive Delta where
  /-- Insert the literal bytes. -/
  | add (size : Nat) (bytes : List Byte)
  /-- Repeat one byte. -/
  | run (size : Nat) (value : Byte)
  /-- Copy from an address of the window's combined address space. -/
  | copy (size : Nat) (mode : Nat) (address : Nat)
  deriving DecidableEq, Repr

/-- How the reader's last turn ended (log 11). -/
inductive ReadEnd where
  /-- No turn yet since the reader was put at the start of the window. -/
  | start
  /-- The opcode byte and all its operands were read. -/
  | ok
  /-- A byte it needs is not there: nothing was read (60_exceptions.md rule R268). -/
  | endOfData
  /-- A varint or an address field is malformed: nothing was read. -/
  | malformed (c : Cause)
  /-- The entry names an instruction type above 3 (30_encoding.md rule R91): nothing was read. -/
  | invalidOpcode
  deriving DecidableEq, Repr

/-- The reader of the window being accumulated: MODEL's own state (log 9), the positions of
30_encoding.md rule R95 and 45_serializer.md rule R225 (d). -/
structure Reader where
  /-- Index in `INST` of the next byte to read. -/
  instPos : Nat
  /-- Index in `DATA` of the next byte to read. -/
  dataPos : Nat
  /-- Index in `ADDR` of the next byte to read. -/
  addrPos : Nat
  /-- Target bytes the instructions read so far produce. -/
  produced : Nat
  /-- The decoder's cache, all zero at the start of the window. -/
  cache : AddrCache
  /-- The delta instructions read, in order. -/
  deltas : List Delta
  /-- How the last turn ended. -/
  last : ReadEnd
  deriving DecidableEq, Repr

/-- The reader at the start of a window, its cache of the given sizes. -/
def Reader.atStart (nearSize sameSize : Nat) : Reader :=
  { instPos := 0, dataPos := 0, addrPos := 0, produced := 0,
    cache := AddrCache.cleared nearSize sameSize, deltas := [], last := .start }

/-- The state of the block: 10_state.md rules R22 to R38, 20_memory.md rule R60, and the model's own
fields `epoch`, `inputs`, `responses` and `reader`. -/
structure State where
  /-- The parameters (00_scope.md rule R5; five of them are the registers 0x30 to 0x34, rule R35). -/
  params : Params
  /-- `STATUS.FAILED`. -/
  failed : Bool
  /-- `STATUS.RH_READY`. -/
  rhReady : Bool
  /-- `STATUS.BH_READY`. -/
  bhReady : Bool
  /-- `STATUS.CT_VALID`. -/
  ctValid : Bool
  /-- `STATUS.SER_STATE`. -/
  serState : SerState
  /-- `STATUS.WIN_HAS_CHECKSUM`. -/
  winHasChecksum : Bool
  /-- `ERRCAUSE`; none is 0. -/
  errCause : Option Cause
  /-- `ERRCMD`. -/
  errCmd : Byte
  /-- `ERRINFO`. -/
  errInfo : Field
  /-- `SRC_SIZE`. -/
  srcSize : Nat
  /-- `BH_START_OFFSET`. -/
  bhStartOffset : Nat
  /-- `BH_LAST_BLOCK`. -/
  bhLastBlock : Int
  /-- `BH_LAST_END`. -/
  bhLastEnd : Int
  /-- `TGT_SIZE`. -/
  tgtSize : Nat
  /-- `TGT_LO`. -/
  tgtLo : Nat
  /-- `BM_SRC`. -/
  bmSrc : Int
  /-- `BM_TGT`. -/
  bmTgt : Nat
  /-- `BM_SIZE`. -/
  bmSize : Nat
  /-- `IN_CURSOR`. -/
  inCursor : Nat
  /-- `IN_LIMIT`. -/
  inLimit : Nat
  /-- The address cache. -/
  cache : AddrCache
  /-- `CT_MAXMODE`. -/
  ctMaxMode : Nat
  /-- `CT`: the entries that differ from `DEFAULT_TABLE`; an unlisted one is the default's. -/
  ct : Sparse CtEntry
  /-- `FORMAT_FLAGS` bit 0, `INTERLEAVED`. -/
  interleaved : Bool
  /-- `FORMAT_FLAGS` bit 1, `CHECKSUM`. -/
  checksumOn : Bool
  /-- `WIN_SRC_MODE`. -/
  winSrcMode : WinSource
  /-- `WIN_SRC_SIZE`. -/
  winSrcSize : Nat
  /-- `WIN_SRC_POS`. -/
  winSrcPos : Nat
  /-- `WIN_TARGET_LEN`. -/
  winTargetLen : Nat
  /-- `WIN_CHECKSUM`. -/
  winChecksum : Nat
  /-- `LAST_OPCODE_INDEX`. -/
  lastOpcodeIndex : Int
  /-- `DATA_LEN`. -/
  dataLen : Nat
  /-- `INST_LEN`. -/
  instLen : Nat
  /-- `ADDR_LEN`. -/
  addrLen : Nat
  /-- `OUT_LEN`. -/
  outLen : Nat
  /-- `RH_REMOVE`, 256 values (rule R27). -/
  rhRemove : List Nat
  /-- `BH_HEAD` (rule R28); an unlisted entry is -1. -/
  bhHead : Sparse Nat
  /-- `BH_NEXT` (rule R28); an unlisted entry is -1. -/
  bhNext : Sparse Nat
  /-- The bytes written in each space since reset (20_memory.md rule R60); an unlisted byte is
  unspecified (rule R69; log 2). -/
  src : Sparse Byte
  tgt : Sparse Byte
  inp : Sparse Byte
  data : Sparse Byte
  inst : Sparse Byte
  addr : Sparse Byte
  out : Sparse Byte
  /-- Number of the last reset: MODEL's own, the index of the free contents of unwritten bytes. -/
  epoch : Nat
  /-- What the host presents, the next first: MODEL's own (log 5). -/
  inputs : List Input
  /-- The responses put on the response port, oldest first: MODEL's own (log 6). -/
  responses : List Response
  /-- The reader of the window: MODEL's own (log 9). -/
  reader : Reader
  deriving DecidableEq, Repr

/-- Why the machine stops. -/
inductive Fault where
  /-- Raised by SER_ADD, SER_RUN and SER_COPY where the code table has no opcode for the instruction with
  size 0. 44_code_table.md rule R200 says that this does not occur while `CT_VALID = 1` and the cache's
  modes are at most `CT_MAXMODE`, which SER_START requires: no run from reset reaches it (log 12).
  Safe. -/
  | noOpcode
  deriving DecidableEq, Repr

/-- Why an instruction has no meaning. -/
inductive Refusal where
  /-- Raised by exec for an instruction that has no meaning yet; none is left. Safe. -/
  | notModelled (mnemonic : String)
  deriving DecidableEq, Repr

/-- The state after reset with the given parameters (10_state.md rules R36, R37; 70_reset_and_hazards.md
rule R291). The arrays and bytes the rules call unspecified: log 2, log 3. -/
def State.resetWith (p : Params) : State where
  params := p
  failed := false
  rhReady := false
  bhReady := false
  ctValid := true
  serState := .uninit
  winHasChecksum := false
  errCause := none
  errCmd := 0
  errInfo := 0
  srcSize := 0
  bhStartOffset := 0
  bhLastBlock := -1
  bhLastEnd := -1
  tgtSize := 0
  tgtLo := 0
  bmSrc := -1
  bmTgt := 0
  bmSize := 0
  inCursor := 0
  inLimit := 0
  cache := AddrCache.cleared Config.nearDefault Config.sameDefault
  ctMaxMode := 8
  ct := []
  interleaved := false
  checksumOn := false
  winSrcMode := .none
  winSrcSize := 0
  winSrcPos := 0
  winTargetLen := 0
  winChecksum := 0
  lastOpcodeIndex := -1
  dataLen := 0
  instLen := 0
  addrLen := 0
  outLen := 0
  rhRemove := List.replicate 256 0
  bhHead := []
  bhNext := []
  src := []
  tgt := []
  inp := []
  data := []
  inst := []
  addr := []
  out := []
  epoch := 0
  inputs := []
  responses := []
  reader := Reader.atStart Config.nearDefault Config.sameDefault

/-- The machine right after reset (70_reset_and_hazards.md rule R291), with the parameters of log 1. -/
def State.reset : State := State.resetWith Config.resetParams

end Sys2Proof.Machine
end

