-- ==== Sys2Proof/Machine/Ops.lean ====
section
/-! DEFINITION. The named operations over memory and registers, the response to a command, taking a
fault and leaving the failed state. -/

namespace Sys2Proof.Machine

/-! ### Sparse arrays -/

/-- The value listed at key `k`. -/
def Sparse.lookup {α : Type} (k : Nat) : Sparse α → Option α
  | [] => none
  | (k', v) :: rest => if k = k' then some v else Sparse.lookup k rest

/-- List `v` at key `k`, keeping the keys rising. -/
def Sparse.insert {α : Type} (k : Nat) (v : α) : Sparse α → Sparse α
  | [] => [(k, v)]
  | (k', v') :: rest =>
    if k < k' then (k, v) :: (k', v') :: rest
    else if k = k' then (k, v) :: rest
    else (k', v') :: Sparse.insert k v rest

/-- List nothing at key `k`. -/
def Sparse.erase {α : Type} (k : Nat) : Sparse α → Sparse α
  | [] => []
  | (k', v') :: rest => if k = k' then rest else (k', v') :: Sparse.erase k rest

/-- Every key of the list is above `k`, and the keys rise strictly. -/
def Sparse.risingFrom {α : Type} (k : Nat) : Sparse α → Bool
  | [] => true
  | (k', _) :: rest => k < k' && Sparse.risingFrom k' rest

/-- The keys rise strictly: the canonical form. -/
def Sparse.rising {α : Type} : Sparse α → Bool
  | [] => true
  | (k, _) :: rest => Sparse.risingFrom k rest

/-! ### Number-valued arrays whose unlisted entries are 0 (AC_NEAR, AC_SAME) -/

/-- Entry `k`. -/
def readZero (a : Sparse Nat) (k : Nat) : Nat := (Sparse.lookup k a).getD 0

/-- Set entry `k`, listing no zero. -/
def writeZero (a : Sparse Nat) (k v : Nat) : Sparse Nat :=
  if v = 0 then Sparse.erase k a else Sparse.insert k v a

/-! ### Memory spaces (20_memory.md) -/

/-- The number of a space (rule R60). -/
def Space.number : Space → Nat
  | .src => 0
  | .tgt => 1
  | .inp => 2
  | .data => 3
  | .inst => 4
  | .addr => 5
  | .out => 6

/-- The space a command's operand names, if any (rules R60, R65). -/
def Space.ofNumber (n : Nat) : Option Space :=
  match n with
  | 0 => some .src
  | 1 => some .tgt
  | 2 => some .inp
  | 3 => some .data
  | 4 => some .inst
  | 5 => some .addr
  | 6 => some .out
  | _ => none

/-- The bytes written in a space. -/
def State.mem (s : State) : Space → Sparse Byte
  | .src => s.src
  | .tgt => s.tgt
  | .inp => s.inp
  | .data => s.data
  | .inst => s.inst
  | .addr => s.addr
  | .out => s.out

/-- Replace the bytes written in a space. -/
def State.setMem (s : State) (sp : Space) (m : Sparse Byte) : State :=
  match sp with
  | .src => { s with src := m }
  | .tgt => { s with tgt := m }
  | .inp => { s with inp := m }
  | .data => { s with data := m }
  | .inst => { s with inst := m }
  | .addr => { s with addr := m }
  | .out => { s with out := m }

/-- The capacity of a space (00_scope.md rule R5). -/
def Params.cap (p : Params) : Space → Nat
  | .src => p.srcCap
  | .tgt => p.tgtCap
  | .inp => p.inCap
  | .data => p.dataCap
  | .inst => p.instCap
  | .addr => p.addrCap
  | .out => p.outCap

/-- What an unlisted byte of a space reads as: the free value of its address, fixed between two resets
(20_memory.md rules R64, R69; 93_implementation_defined.md U20; log 2). -/
def State.unlisted (s : State) (sp : Space) (a : Nat) : Byte :=
  Config.unwrittenByte s.epoch sp.number a

/-- `MemRead(space, a, 1)` (00_scope.md rule R11): the byte last written there, or the free value. -/
def State.readByte (s : State) (sp : Space) (a : Nat) : Byte :=
  (Sparse.lookup a (s.mem sp)).getD (s.unlisted sp a)

/-- `MemWrite(space, a, 1, v)` (00_scope.md rule R11). -/
def State.writeByte (s : State) (sp : Space) (a : Nat) (v : Byte) : State :=
  s.setMem sp (Sparse.insert a v (s.mem sp))

/-- Write a sequence of bytes at ascending addresses (20_memory.md rule R62). -/
def State.writeBytes (s : State) (sp : Space) (a : Nat) : List Byte → State
  | [] => s
  | v :: rest => (s.writeByte sp a v).writeBytes sp (a + 1) rest

/-- `space[a .. a + n)` (00_scope.md rule R10). -/
def State.readBytes (s : State) (sp : Space) (a n : Nat) : List Byte :=
  (List.range n).map fun i => s.readByte sp (a + i)

/-- The length register of an append-only space (20_memory.md rule R66); the other spaces have none. -/
def State.len (s : State) : Space → Nat
  | .data => s.dataLen
  | .inst => s.instLen
  | .addr => s.addrLen
  | .out => s.outLen
  | _ => 0

/-- Set the length register of an append-only space. -/
def State.setLen (s : State) (sp : Space) (n : Nat) : State :=
  match sp with
  | .data => { s with dataLen := n }
  | .inst => { s with instLen := n }
  | .addr => { s with addrLen := n }
  | .out => { s with outLen := n }
  | _ => s

/-- `Append(space, bs)` (20_memory.md rule R66). -/
def State.append (s : State) (sp : Space) (bs : List Byte) : State :=
  (s.writeBytes sp (s.len sp) bs).setLen sp (s.len sp + bs.length)

/-- `LEN + n <= cap`: the space has room for `n` more bytes (20_memory.md rule R66). -/
def State.hasRoom (s : State) (sp : Space) (n : Nat) : Bool :=
  s.len sp + n ≤ Params.cap s.params sp

/-- The canonical form of the memory: every space lists its bytes with strictly rising addresses. No
entry can equal what an unlisted byte reads as, because an unlisted byte has no value in the model. -/
def State.memoryWf (s : State) : Bool :=
  Sparse.rising s.src && Sparse.rising s.tgt && Sparse.rising s.inp && Sparse.rising s.data &&
    Sparse.rising s.inst && Sparse.rising s.addr && Sparse.rising s.out

/-! ### Statuses, causes, responses -/

/-- The status code (30_encoding.md rule R82). -/
def Status.code : Status → Nat
  | .ok => 0
  | .endOfData => 1
  | .error => 2
  | .misuse => 3
  | .illegal => 4
  | .refused => 5
  | .capacity => 6

/-- The cause code (60_exceptions.md rule R261). -/
def Cause.code : Cause → Nat
  | .varintOverflow => 1
  | .addrHereNonpositive => 2
  | .addrOutOfRange => 3
  | .addrNearOverflow => 4
  | .addrBadMode => 5
  | .badCacheSizes => 6
  | .invalidCodeTable => 7
  | .notInitialized => 16
  | .rangeRegression => 17
  | .negativeValue => 18
  | .badOperand => 19
  | .badState => 20
  | .pendingWindow => 21
  | .srcImmutable => 22
  | .illegalCommand => 32
  | .capacity => 33

/-- The status a cause is reported with (60_exceptions.md rule R261). -/
def Cause.status : Cause → Status
  | .varintOverflow => .error
  | .addrHereNonpositive => .error
  | .addrOutOfRange => .error
  | .addrNearOverflow => .error
  | .addrBadMode => .error
  | .badCacheSizes => .error
  | .invalidCodeTable => .error
  | .notInitialized => .misuse
  | .rangeRegression => .misuse
  | .negativeValue => .misuse
  | .badOperand => .misuse
  | .badState => .misuse
  | .pendingWindow => .misuse
  | .srcImmutable => .misuse
  | .illegalCommand => .illegal
  | .capacity => .capacity

/-- The response word (30_encoding.md rule R81). -/
def Response.word (r : Response) : BitVec 320 :=
  r.r3 ++ r.r2 ++ r.r1 ++ r.r0 ++ BitVec.ofNat 64 r.status.code

/-- A response with no result: all result fields zero (30_encoding.md rule R82). -/
def Response.bare (st : Status) : Response := { status := st, r0 := 0, r1 := 0, r2 := 0, r3 := 0 }

/-- Put a response on the response port (00_scope.md rules R7, R12; log 6). -/
def State.respond (s : State) (r : Response) : State :=
  { s with responses := s.responses ++ [r] }

/-! ### Taking a fault, and leaving the failed state -/

/-- Fault entry (60_exceptions.md rule R264): the error registers record the first fault only; the
response carries the status of the cause; nothing else changes. -/
def State.takeFault (s : State) (op : Byte) (c : Cause) (info : Field) : State :=
  (if s.failed then s
    else { s with failed := true, errCause := some c, errCmd := op, errInfo := info }).respond
    (Response.bare c.status)

/-- The state after a reset of the whole block (46_system.md rule R241, 70_reset_and_hazards.md rules
R290, R291). The bytes of memory become unspecified: a new epoch (log 2). What the host presents and
what it was answered are not the block's (log 7). -/
def State.fullReset (s : State) : State :=
  { State.resetWith s.params with
    epoch := s.epoch + 1
    inputs := s.inputs
    responses := s.responses }

/-- Reset of the session domain (46_system.md rule R242, 70_reset_and_hazards.md rule R292), the return
from a fault (60_exceptions.md rule R266). -/
def State.sessionReset (s : State) : State :=
  { s with
    failed := false
    errCause := none
    errCmd := 0
    errInfo := 0
    tgtSize := 0
    tgtLo := 0
    bmSrc := -1
    bmTgt := 0
    bmSize := 0
    inCursor := 0
    inLimit := 0
    cache := AddrCache.cleared Config.nearDefault Config.sameDefault
    ct := []
    ctValid := true
    ctMaxMode := 8
    serState := .uninit
    winHasChecksum := false
    interleaved := false
    checksumOn := false
    winSrcMode := .none
    winSrcSize := 0
    winSrcPos := 0
    winTargetLen := 0
    winChecksum := 0
    lastOpcodeIndex := -1
    dataLen := 0
    instLen := 0
    addrLen := 0
    outLen := 0
    reader := Reader.atStart Config.nearDefault Config.sameDefault }

/-! ### Ending a command -/

/-- What a command's own rule decides, before the response is given (00_scope.md rule R12). -/
inductive Result where
  /-- `respond(OK, …)` with the state the command writes. -/
  | ok (s : State) (r0 r1 r2 r3 : Field)
  /-- `respond(END_OF_DATA)`: nothing changes (60_exceptions.md rule R268). -/
  | endOfData
  /-- `raise` with a cause and its information (60_exceptions.md rule R261). -/
  | raise (c : Cause) (info : Field)
  /-- The model stops (log 12). -/
  | stuck (f : Fault)

/-- `respond(OK)` with no results. -/
def Result.done (s : State) : Result := .ok s 0 0 0 0

/-- The commands accepted while `STATUS.FAILED = 1`: RESET, SESSION_RESET, RDREG, MEM_READ
(60_exceptions.md rule R265). -/
def allowedWhenFailed (op : Byte) : Bool :=
  op == 0x01 || op == 0x02 || op == 0x03 || op == 0x05

/-- Run the command of number `op` whose rule decides `r` at `s`: REFUSED in the failed state
(60_exceptions.md rules R263, R265), else the rule's outcome, exactly one response in every case. -/
def command (op : Byte) (s : State) (r : Result) : Host.Outcome State Fault Refusal :=
  if s.failed && !allowedWhenFailed op then .next (s.respond (Response.bare .refused))
  else
    match r with
    | .ok t r0 r1 r2 r3 => .next (t.respond { status := .ok, r0, r1, r2, r3 })
    | .endOfData => .next (s.respond (Response.bare .endOfData))
    | .raise c info => .next (s.takeFault op c info)
    | .stuck f => .fault f

/-- A command word that spells no command: REFUSED in the failed state unless its `op` is one of the
four allowed, else `ILLEGAL(ILLEGAL_COMMAND, CW[63:0])` (30_encoding.md rule R84, 60_exceptions.md rule
R263). -/
def rejectWord (w : CommandWord) (s : State) : State :=
  if s.failed && !allowedWhenFailed (opBits w) then s.respond (Response.bare .refused)
  else s.takeFault (opBits w) .illegalCommand (w.extractLsb' 0 64)

end Sys2Proof.Machine
end

