-- ==== Sys2Proof/Machine/Flags.lean ====
section
/-! DEFINITION. The STATUS register and FORMAT_FLAGS as numbers (10_state.md rules R24, R34). The block has
no condition flags (46_system.md rule R248 f): these are all the flags there are. -/

namespace Sys2Proof.Machine

/-- The number of a serializer state (rule R24 bits 5:4). -/
def SerState.code : SerState → Nat
  | .uninit => 0
  | .ready => 1
  | .inWindow => 2

/-- The number of a source mode (rule R34). -/
def WinSource.code : WinSource → Nat
  | .none => 0
  | .source => 1
  | .target => 2

/-- `STATUS` (rule R24): bit 0 FAILED, 1 RH_READY, 2 BH_READY, 3 CT_VALID, 5:4 SER_STATE, 6
WIN_HAS_CHECKSUM; bits 63:7 zero. -/
def State.status (s : State) : Nat :=
  s.failed.toNat + 2 * s.rhReady.toNat + 4 * s.bhReady.toNat + 8 * s.ctValid.toNat +
    16 * s.serState.code + 64 * s.winHasChecksum.toNat

/-- `FORMAT_FLAGS` (rule R34): bit 0 INTERLEAVED, bit 1 CHECKSUM. -/
def State.formatFlags (s : State) : Nat := s.interleaved.toNat + 2 * s.checksumOn.toNat

/-- Set `FORMAT_FLAGS` from the number a command gives (45_serializer.md rule R211). -/
def State.setFormatFlags (s : State) (n : Nat) : State :=
  { s with interleaved := n.testBit 0, checksumOn := n.testBit 1 }

end Sys2Proof.Machine
end

