-- ==== Sys2Proof/Machine/Operands.lean ====
section
/-! DEFINITION. Operands: register numbers, source modes, and the range checks commands share
(10_state.md rule R36, 30_encoding.md rule R85).

An operand is a whole 64-bit lane, read as `u64` or `s64` (00_scope.md rule R9); none is ever truncated
into range. -/

namespace Sys2Proof.Machine

/-- The 64-bit value of the register of a number, or none where the map has no such number (10_state.md
rules R23, R36). -/
def State.readReg (s : State) (n : Nat) : Option Field :=
  match n with
  | 0x00 => some (field s.status)
  | 0x01 => some (field ((s.errCause.map Cause.code).getD 0))
  | 0x02 => some (field s.errCmd.toNat)
  | 0x03 => some s.errInfo
  | 0x04 => some (field s.srcSize)
  | 0x05 => some (field s.bhStartOffset)
  | 0x06 => some (sfield s.bhLastBlock)
  | 0x07 => some (sfield s.bhLastEnd)
  | 0x08 => some (field s.tgtSize)
  | 0x09 => some (field s.tgtLo)
  | 0x0A => some (sfield s.bmSrc)
  | 0x0B => some (field s.bmTgt)
  | 0x0C => some (field s.bmSize)
  | 0x0D => some (field s.inCursor)
  | 0x0E => some (field s.inLimit)
  | 0x10 => some (field s.cache.nearSize)
  | 0x11 => some (field s.cache.sameSize)
  | 0x12 => some (field s.cache.nextSlot)
  | 0x14 => some (field s.ctMaxMode)
  | 0x18 => some (field s.formatFlags)
  | 0x19 => some (field s.winSrcMode.code)
  | 0x1A => some (field s.winSrcSize)
  | 0x1B => some (field s.winSrcPos)
  | 0x1C => some (field s.winTargetLen)
  | 0x1D => some (field s.winChecksum)
  | 0x1E => some (sfield s.lastOpcodeIndex)
  | 0x1F => some (field s.dataLen)
  | 0x20 => some (field s.instLen)
  | 0x21 => some (field s.addrLen)
  | 0x22 => some (field s.outLen)
  | 0x30 => some (field s.params.b)
  | 0x31 => some (field s.params.w)
  | 0x32 => some (field s.params.m)
  | 0x33 => some (field s.params.t)
  | 0x34 => some (field s.params.maxMatches)
  | _ => none

/-- The range WRREG accepts for a register, or none for one that is read-only or not in the map
(46_system.md rule R244). -/
def State.writeRange (s : State) (n : Nat) : Option (Int × Int) :=
  match n with
  | 0x08 => some (0, s.params.tgtCap)
  | 0x09 => some (0, s.params.tgtCap)
  | 0x0A => some (-1, max32)
  | 0x0B => some (0, max32)
  | 0x0C => some (0, max32)
  | 0x0D => some (0, s.params.inCap)
  | 0x0E => some (0, s.params.inCap)
  | _ => none

/-- Write a writable register (46_system.md rule R244). -/
def State.writeReg (s : State) (n : Nat) (v : Int) : State :=
  match n with
  | 0x08 => { s with tgtSize := v.toNat }
  | 0x09 => { s with tgtLo := v.toNat }
  | 0x0A => { s with bmSrc := v }
  | 0x0B => { s with bmTgt := v.toNat }
  | 0x0C => { s with bmSize := v.toNat }
  | 0x0D => { s with inCursor := v.toNat }
  | 0x0E => { s with inLimit := v.toNat }
  | _ => s

/-- The source mode a number names: 0 none, 1 `VCD_SOURCE`, 2 `VCD_TARGET` (45_serializer.md rule
R213). -/
def WinSource.ofNumber (n : Nat) : Option WinSource :=
  match n with
  | 0 => some WinSource.none
  | 1 => some .source
  | 2 => some .target
  | _ => Option.none

/-- The window of `B` bytes at `offset` lies inside the first `size` bytes of its buffer: the negation of
`a1 > MAX32 or a1 + B > size` (41_rolling_hash.md rule R145, 42_block_hash.md rules R156, R157). -/
def State.windowInside (s : State) (offset size : Nat) : Bool :=
  offset ≤ max32 && offset + s.params.b ≤ size

/-- The first of the operands that is above 255 (44_code_table.md rules R198, R199). -/
def firstAboveByte (ops : List Field) : Option Field := ops.find? fun a => 255 < u64 a

end Sys2Proof.Machine
end

