-- ==== Sys2Proof/Machine/Varint.lean ====
section
/-! DEFINITION. The varint functions (40_varint.md rules R120 to R124), which the varint unit, the address
cache and the serializer share. -/

namespace Sys2Proof.Machine

/-- The two widths (rule R121). -/
inductive VarWidth where
  | w32
  | w64
  deriving DecidableEq, Repr

/-- The largest value of a width (rule R121). -/
def VarWidth.max : VarWidth → Nat
  | .w32 => max32
  | .w64 => max64

/-- The most digits a parser accepts (rule R121). -/
def VarWidth.maxDigits : VarWidth → Nat
  | .w32 => 5
  | .w64 => 10

/-- The loop of `Length` with a bound on its turns. -/
def varintLengthFrom : (turns v : Nat) → Nat
  | 0, _ => 1
  | turns + 1, v => if v < 128 then 1 else varintLengthFrom turns (v / 128) + 1

/-- `Length(v)` (rule R122): the number of base-128 digits, at least 1. `v` turns are always enough. -/
def varintLength (v : Nat) : Nat := varintLengthFrom v v

/-- Digit `i` of the `n` bytes of `Encode(v)` (rule R123): its 7 bits, and bit 7 set on all but the
last. -/
def varintDigit (v n i : Nat) : Byte :=
  byte (v / 128 ^ (n - 1 - i) % 128 + if i < n - 1 then 128 else 0)

/-- `Encode(v)` (rule R123): the fewest digits, most significant first. -/
def varintEncode (v : Nat) : List Byte :=
  (List.range (varintLength v)).map (varintDigit v (varintLength v))

/-- What `Parse` returns (rule R124). -/
inductive ParseResult where
  | ok (value cursor : Nat)
  | endOfData
  | error
  deriving DecidableEq, Repr

/-- The loop of `Parse` (rule R124): `left` digits may still be read, `result` is the value so far
shifted for the next digit, `p` the cursor. The checks after each byte stand in the rule's order. -/
def varintParseFrom (mem : Nat → Byte) (limit max : Nat) : (left result p : Nat) → ParseResult
  | 0, _, _ => .error
  | left + 1, result, p =>
    if limit ≤ p then .endOfData
    else
      let b := (mem p).toNat
      let value := result + b % 128
      if b < 128 then .ok value (p + 1)
      else if left = 0 then .error
      else if max / 128 < value then .error
      else varintParseFrom mem limit max left (value * 128) (p + 1)

/-- `Parse(width)` over the bytes of `mem` from `cursor` up to `limit` (rule R124). -/
def varintParse (width : VarWidth) (mem : Nat → Byte) (cursor limit : Nat) : ParseResult :=
  varintParseFrom mem limit width.max width.maxDigits 0 cursor

end Sys2Proof.Machine
end

