-- ==== Sys2Proof/Machine/AddressCache.lean ====
section
/-! DEFINITION. The address cache (43_address_cache.md). -/

namespace Sys2Proof.Machine

/-! ### The functions, over a cache -/

/-- `AC_LASTMODE` (30_encoding.md rule R92). -/
def AddrCache.lastMode (c : AddrCache) : Nat := 1 + c.nearSize + c.sameSize

/-- `Update(addr)` (rule R171). -/
def AddrCache.update (c : AddrCache) (addr : Nat) : AddrCache :=
  { c with
    near := if 0 < c.nearSize then writeZero c.near c.nextSlot addr else c.near
    nextSlot := if 0 < c.nearSize then (c.nextSlot + 1) % c.nearSize else c.nextSlot
    same := if 0 < c.sameSize then writeZero c.same (addr % (c.sameSize * 256)) addr else c.same }

/-- The cache all zero, the sizes kept (rule R175). -/
def AddrCache.clear (c : AddrCache) : AddrCache := AddrCache.cleared c.nearSize c.sameSize

/-- A candidate encoding (rule R172). -/
structure AddrChoice where
  len : Nat
  mode : Nat
  value : Nat
  deriving DecidableEq, Repr

/-- The SELF, HERE and NEAR candidates: a varint of the value (rule R172). -/
def AddrChoice.varint (mode value : Nat) : AddrChoice :=
  { len := varintLength value, mode, value }

/-- The NEAR candidates in ascending slot number (rule R172). -/
def AddrCache.nearChoices (c : AddrCache) (addr : Nat) : List AddrChoice :=
  ((List.range c.nearSize).filter fun i => decide (readZero c.near i ≤ addr)).map fun i =>
    AddrChoice.varint (2 + i) (addr - readZero c.near i)

/-- The SAME candidate, if there is a hit (rule R172). -/
def AddrCache.sameChoices (c : AddrCache) (addr : Nat) : List AddrChoice :=
  let pos := addr % (c.sameSize * 256)
  if 0 < c.sameSize ∧ readZero c.same pos = addr then
    [{ len := 1, mode := 2 + c.nearSize + pos / 256, value := pos % 256 }]
  else []

/-- The candidates after SELF, in ascending mode number (rule R173). -/
def AddrCache.choices (c : AddrCache) (addr here : Nat) : List AddrChoice :=
  AddrChoice.varint 1 (here - addr) :: (c.nearChoices addr ++ c.sameChoices addr)

/-- A candidate replaces the best only when strictly shorter (rule R173). -/
def AddrChoice.better (best c : AddrChoice) : AddrChoice := if c.len < best.len then c else best

/-- `Choose(addr, here)` (rule R173): least wire length, then lowest mode number. -/
def AddrCache.choose (c : AddrCache) (addr here : Nat) : AddrChoice :=
  (c.choices addr here).foldl AddrChoice.better (AddrChoice.varint 0 addr)

/-- What `Decode` returns (rule R177). -/
inductive AddrResult where
  | ok (addr cursor : Nat)
  | endOfData
  | error (c : Cause)
  deriving DecidableEq, Repr

/-- The last check of `Decode` (rule R177). -/
def addrInRange (addr here : Int) (cursor : Nat) : AddrResult :=
  if addr < 0 ∨ here ≤ addr then .error .addrOutOfRange else .ok addr.toNat cursor

/-- The address a varint `v` stands for in mode SELF, HERE or NEAR (rule R177). -/
def AddrCache.decodeValue (c : AddrCache) (here : Int) (mode v cursor : Nat) : AddrResult :=
  if mode = 0 then addrInRange v here cursor
  else if mode = 1 then addrInRange (here - v) here cursor
  else if max32 < readZero c.near (mode - 2) + v then .error .addrNearOverflow
  else addrInRange (readZero c.near (mode - 2) + v : Nat) here cursor

/-- `Decode(here, mode)` over the bytes of `mem` from `cursor` up to `limit` (rule R177). -/
def AddrCache.decode (c : AddrCache) (mem : Nat → Byte) (cursor limit : Nat) (here : Int)
    (mode : Nat) : AddrResult :=
  if here ≤ 0 ∨ (max32 : Int) < here then .error .addrHereNonpositive
  else if c.lastMode < mode then .error .addrBadMode
  else if 2 + c.nearSize ≤ mode then
    if limit ≤ cursor then .endOfData
    else
      addrInRange (readZero c.same ((mode - 2 - c.nearSize) * 256 + (mem cursor).toNat)) here
        (cursor + 1)
  else
    match varintParse .w32 mem cursor limit with
    | .endOfData => .endOfData
    | .error => .error .varintOverflow
    | .ok v q => c.decodeValue here mode v q

/-! ### The commands -/

/-- The fault of a command that is legal only while `SER_STATE = UNINIT`: its information is the state
(rules R174 to R178, 44_code_table.md rules R194, R195, R197). -/
def State.badState (s : State) : Result := .raise .badState (field s.serState.code)

/-- `AC_CONFIG` (rule R174). -/
def execAcConfig (near same : Field) (s : State) : Host.Outcome State Fault Refusal :=
  command 0x40 s <|
    if s.serState ≠ .uninit then s.badState
    else if s64 near < 0 ∨ s64 same < 0 ∨ 254 < s64 near + s64 same then .raise .badCacheSizes near
    else .done { s with cache := AddrCache.cleared (s64 near).toNat (s64 same).toNat }

/-- `AC_RESET` (rule R175). -/
def execAcReset (s : State) : Host.Outcome State Fault Refusal :=
  command 0x41 s <|
    if s.serState ≠ .uninit then s.badState
    else .done { s with cache := s.cache.clear }

/-- `AC_ENCODE` (rule R176). -/
def execAcEncode (addr here : Field) (s : State) : Host.Outcome State Fault Refusal :=
  command 0x42 s <|
    if s.serState ≠ .uninit then s.badState
    else if s64 addr < 0 ∨ (max32 : Int) < s64 here ∨ s64 here ≤ s64 addr then .raise .badOperand addr
    else
      let a := (s64 addr).toNat
      let ch := s.cache.choose a (s64 here).toNat
      .ok { s with cache := s.cache.update a } (field ch.mode) (field ch.value) 0 0

/-- The information recorded with a fault of AC_DECODE (rule R178). -/
def acDecodeInfo (c : Cause) (here mode : Field) (cursor : Nat) : Field :=
  if c = .addrHereNonpositive then here else if c = .addrBadMode then mode else field cursor

/-- `AC_DECODE` (rule R178). -/
def execAcDecode (here mode : Field) (s : State) : Host.Outcome State Fault Refusal :=
  command 0x43 s <|
    if s.serState ≠ .uninit then s.badState
    else
      match s.cache.decode (s.readByte .inp) s.inCursor s.inLimit (s64 here) (u64 mode) with
      | .endOfData => .endOfData
      | .error c => .raise c (acDecodeInfo c here mode s.inCursor)
      | .ok a p => .ok { s with cache := s.cache.update a, inCursor := p } (field a) (field p) 0 0

end Sys2Proof.Machine
end

