-- ==== Sys2Proof/Machine/RollingHash.lean ====
section
/-! DEFINITION. The rolling-hash unit (41_rolling_hash.md). -/

namespace Sys2Proof.Machine

/-- One step of Horner's rule (rule R140). -/
def hashStep (p : Params) (h : Nat) (b : Byte) : Nat := (h * p.m + b.toNat) % 2 ^ p.w

/-- `Hash(bytes)` (rule R140), of the bytes given (the `B` of a window). -/
def hashOf (p : Params) (bytes : List Byte) : Nat := bytes.foldl (hashStep p) 0

/-- `Hash` of the `B` bytes at `a` of a space (rule R145). -/
def State.hashAt (s : State) (sp : Space) (a : Nat) : Nat :=
  hashOf s.params (s.readBytes sp a s.params.b)

/-- `RH_REMOVE[b]` after RH_INIT (rule R141). -/
def removalEntry (p : Params) (b : Nat) : Nat :=
  (2 ^ p.w - b * (p.m ^ (p.b - 1) % 2 ^ p.w) % 2 ^ p.w) % 2 ^ p.w

/-- The removal table (rule R141). -/
def removalTable (p : Params) : List Nat := (List.range 256).map (removalEntry p)

/-- `Update(old, out, in)` with the removal value of the byte leaving (rule R142). -/
def hashUpdate (p : Params) (old removal entering : Nat) : Nat :=
  ((old + removal) % 2 ^ p.w * p.m + entering) % 2 ^ p.w

/-- `RH_INIT` (rule R144). -/
def execRhInit (s : State) : Host.Outcome State Fault Refusal :=
  command 0x20 s (.done { s with rhRemove := removalTable s.params, rhReady := true })

/-- `RH_HASH` (rule R145). -/
def execRhHash (space offset : Field) (s : State) : Host.Outcome State Fault Refusal :=
  command 0x21 s <|
    if s.rhReady = false then .raise .notInitialized 0
    else if 1 < u64 space then .raise .badOperand space
    else
      let sp : Space := if u64 space = 0 then .src else .tgt
      let size := if u64 space = 0 then s.srcSize else s.tgtSize
      if s.windowInside (u64 offset) size then .ok s (field (s.hashAt sp (u64 offset))) 0 0 0
      else .raise .badOperand offset

/-- `RH_UPDATE` (rule R146). -/
def execRhUpdate (old leaving entering : Field) (s : State) : Host.Outcome State Fault Refusal :=
  command 0x22 s <|
    if s.rhReady = false then .raise .notInitialized 0
    else if 2 ^ s.params.w ≤ u64 old then .raise .badOperand old
    else if 255 < u64 leaving then .raise .badOperand leaving
    else if 255 < u64 entering then .raise .badOperand entering
    else
      .ok s (field (hashUpdate s.params (u64 old) (s.rhRemove.getD (u64 leaving) 0) (u64 entering)))
        0 0 0

end Sys2Proof.Machine
end

