-- ==== Sys2Proof/Machine/BlockHash.lean ====
section
/-! DEFINITION. The block-hash matcher (42_block_hash.md). -/

namespace Sys2Proof.Machine

/-! ### The index -/

/-- Set an entry of BH_NEXT to a block number, or to -1 (none). -/
def setLink (a : Sparse Nat) (k : Nat) : Option Nat → Sparse Nat
  | some v => Sparse.insert k v a
  | none => Sparse.erase k a

/-- The entry of BH_HEAD that the block at source offset `a` belongs to (rule R150). -/
def State.bucketAt (s : State) (a : Nat) : Nat := s.hashAt .src a % 2 ^ s.params.t

/-- `AddBlock(k)` (rule R151). -/
def State.addBlock (s : State) (k : Nat) : State :=
  let i := s.bucketAt (k * s.params.b)
  { s with
    bhNext := setLink s.bhNext k (Sparse.lookup i s.bhHead)
    bhHead := Sparse.insert i k s.bhHead
    bhLastBlock := k }

/-- The index emptied for a reference buffer of `size` bytes with the bias `offset` (rule R153). -/
def State.emptyIndex (s : State) (size offset : Nat) : State :=
  { s with
    srcSize := size
    bhStartOffset := offset
    bhHead := []
    bhNext := []
    bhLastBlock := -1
    bhLastEnd := -1
    bhReady := true }

/-- Add the blocks `k`, `k + 1`, … that start below `stop` and lie wholly inside SRC_SIZE, at most
`turns` of them (the loop of rule R154). -/
def State.addBlocksFrom (s : State) (stop : Nat) : (turns k : Nat) → State
  | 0, _ => s
  | turns + 1, k =>
    if k * s.params.b < stop ∧ (k + 1) * s.params.b ≤ s.srcSize then
      (s.addBlock k).addBlocksFrom stop turns (k + 1)
    else s

/-- The loop of rule R154 from the first block not in the index. There are `SRC_SIZE div B` blocks, so
that many turns are enough. -/
def State.addBlocksThrough (s : State) (stop : Nat) : State :=
  s.addBlocksFrom stop (s.srcSize / s.params.b) (s.bhLastBlock + 1).toNat

/-- The result `r0` of the commands that build the index: the number of blocks in it. -/
def State.blockCount (s : State) : Field := sfield (s.bhLastBlock + 1)

/-- `BH_INIT` (rule R153). Populating adds every whole block: those that start below SRC_SIZE. -/
def execBhInit (size offset populate : Field) (s : State) : Host.Outcome State Fault Refusal :=
  command 0x30 s <|
    if s.rhReady = false then .raise .notInitialized 0
    else if s.params.srcCap < u64 size then .raise .badOperand size
    else if max32 < u64 offset ∨ max32 < u64 size + u64 offset then .raise .badOperand offset
    else if 1 < u64 populate then .raise .badOperand populate
    else
      let e := s.emptyIndex (u64 size) (u64 offset)
      if u64 populate = 1 then
        let t := { e.addBlocksThrough (u64 size) with bhLastEnd := u64 size }
        .ok t t.blockCount 0 0 0
      else .ok e e.blockCount 0 0 0

/-- `BH_ADD_THROUGH` (rule R154). -/
def execBhAddThrough (stop : Field) (s : State) : Host.Outcome State Fault Refusal :=
  command 0x31 s <|
    if s.bhReady = false then .raise .notInitialized 0
    else if s64 stop ≤ s.bhLastEnd then .raise .rangeRegression stop
    else if (s.srcSize : Int) < s64 stop then .raise .badOperand stop
    else
      let t := { s.addBlocksThrough (s64 stop).toNat with bhLastEnd := s64 stop }
      .ok t t.blockCount 0 0 0

/-! ### Walking a chain -/

/-- The blocks of a chain from `k` along BH_NEXT, at most `turns` of them (rule R152). -/
def chainFrom (next : Sparse Nat) : (turns : Nat) → Option Nat → List Nat
  | 0, _ => []
  | _ + 1, none => []
  | turns + 1, some k => k :: chainFrom next turns (Sparse.lookup k next)

/-- The chain from `k`. No chain is longer than the number of blocks in the index (rule R152,
70_reset_and_hazards.md rule R307), which bounds the walk also in states no run reaches (log 13). -/
def State.chain (s : State) (k : Option Nat) : List Nat :=
  chainFrom s.bhNext (s.bhLastBlock + 1).toNat k

/-- Block `k` is confirmed for the probe at `tpos`: its `B` bytes equal the probe's (rule R155). -/
def State.confirmed (s : State) (tpos k : Nat) : Bool :=
  (List.range s.params.b).all fun i =>
    s.readByte .src (k * s.params.b + i) == s.readByte .tgt (tpos + i)

/-- The confirmed blocks of the chain from `k`, in chain order: what repeated `Skip` visits (rule
R155). -/
def State.candidates (s : State) (tpos : Nat) (k : Option Nat) : List Nat :=
  (s.chain k).filter (s.confirmed tpos)

/-- `Skip(k, tpos)` (rule R155): the first confirmed block from `k` on. -/
def State.skip (s : State) (tpos : Nat) (k : Option Nat) : Option Nat :=
  (s.candidates tpos k).head?

/-- A block number as a result: -1 where there is none. -/
def blockResult : Option Nat → Field
  | some k => field k
  | none => sfield (-1)

/-- The head of the chain a hash selects (rule R150). -/
def State.chainHead (s : State) (hash : Nat) : Option Nat :=
  Sparse.lookup (hash % 2 ^ s.params.t) s.bhHead

/-- `BH_FIRST_MATCH` (rule R156). -/
def execBhFirstMatch (hash tpos : Field) (s : State) : Host.Outcome State Fault Refusal :=
  command 0x32 s <|
    if s.bhReady = false then .raise .notInitialized 0
    else if 2 ^ s.params.w ≤ u64 hash then .raise .badOperand hash
    else if s.windowInside (u64 tpos) s.tgtSize then
      .ok s (blockResult (s.skip (u64 tpos) (s.chainHead (u64 hash)))) 0 0 0
    else .raise .badOperand tpos

/-- `BH_NEXT_MATCH` (rule R157). -/
def execBhNextMatch (block tpos : Field) (s : State) : Host.Outcome State Fault Refusal :=
  command 0x33 s <|
    if s.bhReady = false then .raise .notInitialized 0
    else if s64 block < 0 ∨ s.bhLastBlock < s64 block then .raise .badOperand block
    else if s.windowInside (u64 tpos) s.tgtSize then
      .ok s (blockResult (s.skip (u64 tpos) (Sparse.lookup (u64 block) s.bhNext))) 0 0 0
    else .raise .badOperand tpos

/-! ### The best match -/

/-- How many of `j`, `j + 1`, … satisfy `p` before the first that does not, at most `turns`. -/
def runLength (p : Nat → Bool) : (turns j : Nat) → Nat
  | 0, _ => 0
  | turns + 1, j => if p j then runLength p turns (j + 1) + 1 else 0

/-- `left` for a candidate at source offset `a` and the probe at `tpos` (rule R158). -/
def State.extendLeft (s : State) (a tpos : Nat) : Nat :=
  runLength (fun j => s.readByte .src (a - j) == s.readByte .tgt (tpos - j))
    (min a (tpos - s.tgtLo)) 1

/-- `right` for a candidate at source offset `a` and the probe at `tpos` (rule R159). -/
def State.extendRight (s : State) (a tpos : Nat) : Nat :=
  runLength
    (fun j => s.readByte .src (a + s.params.b + j) == s.readByte .tgt (tpos + s.params.b + j))
    (min (s.srcSize - (a + s.params.b)) (s.tgtSize - (tpos + s.params.b))) 0

/-- One candidate of the best-match loop (rule R160): it replaces the best match only when strictly
larger (rule R161). -/
def State.tryCandidate (tpos : Nat) (s : State) (k : Nat) : State :=
  let a := k * s.params.b
  let left := s.extendLeft a tpos
  let size := s.params.b + left + s.extendRight a tpos
  if s.bmSize < size then
    { s with bmSrc := ((a - left + s.bhStartOffset : Nat) : Int), bmTgt := tpos - left, bmSize := size }
  else s

/-- The loop of rule R160: the first MAX_MATCHES confirmed candidates in chain order (rule R162). -/
def State.findBest (s : State) (hash tpos : Nat) : State :=
  ((s.candidates tpos (s.chainHead hash)).take s.params.maxMatches).foldl
    (State.tryCandidate tpos) s

/-- `BH_FIND_BEST` (rule R160). -/
def execBhFindBest (hash tpos : Field) (s : State) : Host.Outcome State Fault Refusal :=
  command 0x34 s <|
    if s.bhReady = false then .raise .notInitialized 0
    else if 2 ^ s.params.w ≤ u64 hash then .raise .badOperand hash
    else if s.windowInside (u64 tpos) s.tgtSize && decide (s.tgtLo ≤ u64 tpos) then
      let t := s.findBest (u64 hash) (u64 tpos)
      .ok t (sfield t.bmSrc) (field t.bmTgt) (field t.bmSize) 0
    else .raise .badOperand tpos

/-- `BM_CLEAR` (rule R163). -/
def execBmClear (s : State) : Host.Outcome State Fault Refusal :=
  command 0x35 s (.done { s with bmSrc := -1, bmTgt := 0, bmSize := 0 })

end Sys2Proof.Machine
end

