-- ==== Sys2Proof/Machine/CodeTable.lean ====
section
/-! DEFINITION. The code table and the instruction map (44_code_table.md; 30_encoding.md rules R91 to R101). -/

namespace Sys2Proof.Machine

/-! ### Entries -/

/-- One half of an entry: a delta instruction's type, size and mode (30_encoding.md rules R91, R93). -/
structure Half where
  inst : Byte
  size : Byte
  mode : Byte
  deriving DecidableEq, Repr

/-- The instruction type codes (30_encoding.md rule R91). -/
abbrev instNoop : Byte := 0
abbrev instAdd : Byte := 1
abbrev instRun : Byte := 2
abbrev instCopy : Byte := 3

/-- `NO_OPCODE` (rule R192). -/
abbrev noOpcode : Nat := 0x100

def CtEntry.first (e : CtEntry) : Half := { inst := e.inst1, size := e.size1, mode := e.mode1 }

def CtEntry.second (e : CtEntry) : Half := { inst := e.inst2, size := e.size2, mode := e.mode2 }

/-- The entry of two halves. -/
def CtEntry.of (h1 h2 : Half) : CtEntry :=
  { inst1 := h1.inst, size1 := h1.size, mode1 := h1.mode,
    inst2 := h2.inst, size2 := h2.size, mode2 := h2.mode }

/-- An absent half (30_encoding.md rule R93). -/
def Half.absent : Half := { inst := 0, size := 0, mode := 0 }

/-- A half that is an ADD, a RUN, a COPY. -/
def Half.add (size : Nat) : Half := { inst := instAdd, size := byte size, mode := 0 }

def Half.run (size : Nat) : Half := { inst := instRun, size := byte size, mode := 0 }

def Half.copy (size mode : Nat) : Half := { inst := instCopy, size := byte size, mode := byte mode }

/-- The packed entry (30_encoding.md rule R94). -/
def CtEntry.pack (e : CtEntry) : Field :=
  (0 : BitVec 16) ++ e.mode2 ++ e.size2 ++ e.inst2 ++ e.mode1 ++ e.size1 ++ e.inst1

/-- The entry a packed field spells (30_encoding.md rule R94). -/
def CtEntry.unpack (f : Field) : CtEntry :=
  { inst1 := f.extractLsb' 0 8, size1 := f.extractLsb' 8 8, mode1 := f.extractLsb' 16 8,
    inst2 := f.extractLsb' 24 8, size2 := f.extractLsb' 32 8, mode2 := f.extractLsb' 40 8 }

/-- `DEFAULT_TABLE` (30_encoding.md rules R96 to R101). -/
def defaultEntry (op : Nat) : CtEntry :=
  if op = 0 then CtEntry.of (Half.run 0) Half.absent
  else if op ≤ 18 then CtEntry.of (Half.add (op - 1)) Half.absent
  else if op ≤ 162 then
    CtEntry.of
      (Half.copy (if (op - 19) % 16 = 0 then 0 else (op - 19) % 16 + 3) ((op - 19) / 16)) Half.absent
  else if op ≤ 234 then
    CtEntry.of (Half.add ((op - 163) % 12 / 3 + 1)) (Half.copy ((op - 163) % 3 + 4) ((op - 163) / 12))
  else if op ≤ 246 then
    CtEntry.of (Half.add ((op - 235) % 4 + 1)) (Half.copy 4 ((op - 235) / 4 + 6))
  else CtEntry.of (Half.copy 4 (op - 247)) (Half.add 1)

/-- Entry `op` of the code table (10_state.md rule R33). -/
def State.ctEntry (s : State) (op : Nat) : CtEntry := (Sparse.lookup op s.ct).getD (defaultEntry op)

/-- Set an entry of the code table, listing none that is the default's. -/
def State.setCtEntry (s : State) (op : Nat) (e : CtEntry) : State :=
  { s with ct := if e = defaultEntry op then Sparse.erase op s.ct else Sparse.insert op e s.ct }

/-! ### The functions, over a table -/

/-- `Single(e)` (rule R190). -/
def CtEntry.single (e : CtEntry) : Option Half :=
  if e.inst2 = instNoop ∧ e.inst1 ≠ instNoop then some e.first
  else if e.inst1 = instNoop ∧ e.inst2 ≠ instNoop then some e.second
  else none

/-- Both halves present (rule R190). -/
def CtEntry.compound (e : CtEntry) : Bool := e.inst1 != instNoop && e.inst2 != instNoop

/-- `LookupFirst` (rule R192). -/
def lookupFirst (tbl : Nat → CtEntry) (h : Half) : Nat :=
  ((List.range 256).find? fun op => (tbl op).single == some h).getD noOpcode

/-- `LookupSecond` (rule R193). -/
def lookupSecond (tbl : Nat → CtEntry) (first : Nat) (h : Half) : Nat :=
  ((List.range 256).find? fun op =>
    (tbl op).second == h && ((tbl op).compound && lookupFirst tbl (tbl op).first == first)).getD
    noOpcode

/-- A half that CT_VALIDATE refuses: conditions (a) to (c) of rule R191, and an ADD or RUN with a mode other
than 0 (92_eei_decisions.md D36, 93_implementation_defined.md U31; DEDUCED, log 15: rule R191's own remark
allows it). -/
def Half.illegal (h : Half) (maxMode : Nat) : Bool :=
  3 < h.inst.toNat || maxMode < h.mode.toNat || (h.inst == instNoop && (h.size != 0 || h.mode != 0)) ||
    ((h.inst == instAdd || h.inst == instRun) && h.mode != 0)

/-- The lowest opcode with an illegal half (rule R197). -/
def illegalOpcode (tbl : Nat → CtEntry) (maxMode : Nat) : Option Nat :=
  (List.range 256).find? fun op =>
    (tbl op).first.illegal maxMode || (tbl op).second.illegal maxMode

/-- The combinations of condition (d), in the order of rule R197: (ADD, 0), (RUN, 0), (COPY, 0 ..
maxMode), each of size 0. -/
def neededHalves (maxMode : Nat) : List Half :=
  Half.add 0 :: Half.run 0 :: (List.range (maxMode + 1)).map fun m => Half.copy 0 m

/-- The first combination that no opcode expresses (rule R197). -/
def missingHalf (tbl : Nat → CtEntry) (maxMode : Nat) : Option Half :=
  (neededHalves maxMode).find? fun h => lookupFirst tbl h == noOpcode

/-- `Validate(maxMode)` (rule R191; 92_eei_decisions.md D36). -/
def tableValid (tbl : Nat → CtEntry) (maxMode : Nat) : Bool :=
  (illegalOpcode tbl maxMode).isNone && (missingHalf tbl maxMode).isNone

/-! ### The commands -/

/-- `CT_DEFAULT` (rule R194). -/
def execCtDefault (s : State) : Host.Outcome State Fault Refusal :=
  command 0x50 s <|
    if s.serState ≠ .uninit then s.badState
    else .done { s with ct := [], ctValid := true, ctMaxMode := 8 }

/-- `CT_WRITE` (rule R195). -/
def execCtWrite (opcode entry : Field) (s : State) : Host.Outcome State Fault Refusal :=
  command 0x51 s <|
    if s.serState ≠ .uninit then s.badState
    else if 255 < u64 opcode then .raise .badOperand opcode
    else if 2 ^ 48 ≤ u64 entry then .raise .badOperand entry
    else .done { s.setCtEntry (u64 opcode) (CtEntry.unpack entry) with ctValid := false }

/-- `CT_READ` (rule R196). -/
def execCtRead (opcode : Field) (s : State) : Host.Outcome State Fault Refusal :=
  command 0x52 s <|
    if 255 < u64 opcode then .raise .badOperand opcode
    else .ok s (s.ctEntry (u64 opcode)).pack 0 0 0

/-- `CT_VALIDATE` (rule R197). -/
def execCtValidate (maxMode : Field) (s : State) : Host.Outcome State Fault Refusal :=
  command 0x53 s <|
    if s.serState ≠ .uninit then s.badState
    else if 255 < u64 maxMode then .raise .badOperand maxMode
    else
      match illegalOpcode s.ctEntry (u64 maxMode) with
      | some op => .raise .invalidCodeTable (field op)
      | none =>
        match missingHalf s.ctEntry (u64 maxMode) with
        | some h => .raise .invalidCodeTable (field (0x100 * (h.inst.toNat + 1) + h.mode.toNat))
        | none => .done { s with ctValid := true, ctMaxMode := u64 maxMode }

/-- The half that three operands of at most 255 name. -/
def operandHalf (inst size mode : Field) : Half :=
  { inst := byte (u64 inst), size := byte (u64 size), mode := byte (u64 mode) }

/-- `IM_FIRST` (rule R198). -/
def execImFirst (inst size mode : Field) (s : State) : Host.Outcome State Fault Refusal :=
  command 0x54 s <|
    match firstAboveByte [inst, size, mode] with
    | some a => .raise .badOperand a
    | none => .ok s (field (lookupFirst s.ctEntry (operandHalf inst size mode))) 0 0 0

/-- `IM_SECOND` (rule R199). -/
def execImSecond (first inst size mode : Field) (s : State) : Host.Outcome State Fault Refusal :=
  command 0x55 s <|
    match firstAboveByte [first, inst, size, mode] with
    | some a => .raise .badOperand a
    | none =>
      .ok s (field (lookupSecond s.ctEntry (u64 first) (operandHalf inst size mode))) 0 0 0

end Sys2Proof.Machine
end

