-- ==== Sys2Proof/Machine/Serializer.lean ====
section
/-! DEFINITION. The serializer (45_serializer.md). -/

namespace Sys2Proof.Machine

/-! ### The window -/

/-- `ClearWindow()` (rule R222). The reader goes to the start of the new window (log 10). -/
def State.clearWindow (s : State) : State :=
  { s with
    dataLen := 0
    instLen := 0
    addrLen := 0
    winTargetLen := 0
    lastOpcodeIndex := -1
    winHasChecksum := false
    winChecksum := 0
    cache := s.cache.clear
    reader := Reader.atStart s.cache.nearSize s.cache.sameSize }

/-- `Sink(X)` (rule R214). -/
def State.sink (s : State) (sp : Space) : Space := if s.interleaved then .inst else sp

/-- The here address of the next instruction (43_address_cache.md rule R170, rule R219). -/
def State.hereAddress (s : State) : Nat := s.winSrcSize + s.winTargetLen

/-! ### Planning and committing one instruction -/

/-- The plan of rule R215: the opcode byte to rewrite with, if any, the bytes to append, and the new
`LAST_OPCODE_INDEX`. -/
structure Plan where
  rewrite : Option Byte
  bytes : List Byte
  newLast : Int
  deriving DecidableEq, Repr

/-- A half of an instruction looked up with its size in the opcode. -/
def sizedHalf (inst : Byte) (size mode : Nat) : Half :=
  { inst, size := byte size, mode := byte mode }

/-- The first attempt of `Plan` (rule R215): a compound opcode with the size in it. -/
def State.mergeSized (s : State) (last : Byte) (inst : Byte) (size mode : Nat) : Option Plan :=
  let c := lookupSecond s.ctEntry last.toNat (sizedHalf inst size mode)
  if size ≤ 255 ∧ c ≠ noOpcode then some { rewrite := some (byte c), bytes := [], newLast := -1 }
  else none

/-- The second attempt: a compound opcode, the size as a varint. -/
def State.mergeUnsized (s : State) (last : Byte) (inst : Byte) (size mode : Nat) : Option Plan :=
  let c := lookupSecond s.ctEntry last.toNat (sizedHalf inst 0 mode)
  if c ≠ noOpcode then
    some { rewrite := some (byte c), bytes := varintEncode size, newLast := -1 }
  else none

/-- The third attempt: a single opcode with the size in it. -/
def State.singleSized (s : State) (inst : Byte) (size mode : Nat) : Option Plan :=
  let o := lookupFirst s.ctEntry (sizedHalf inst size mode)
  if size ≤ 255 ∧ o ≠ noOpcode then
    some { rewrite := none, bytes := [byte o], newLast := s.instLen }
  else none

/-- The fallback: a single opcode, the size as a varint. 44_code_table.md rule R200 says that it exists
in every reachable state (log 12). -/
def State.singleUnsized (s : State) (inst : Byte) (size mode : Nat) : Option Plan :=
  let o := lookupFirst s.ctEntry (sizedHalf inst 0 mode)
  if o ≠ noOpcode then
    some { rewrite := none, bytes := byte o :: varintEncode size, newLast := s.instLen }
  else none

/-- The two merging attempts, made only when there is an opcode that may still be rewritten. -/
def State.merge (s : State) (inst : Byte) (size mode : Nat) : Option Plan :=
  if 0 ≤ s.lastOpcodeIndex then
    let last := s.readByte .inst s.lastOpcodeIndex.toNat
    (s.mergeSized last inst size mode).or (s.mergeUnsized last inst size mode)
  else none

/-- `Plan(inst, size, mode)` (rule R215). -/
def State.plan (s : State) (inst : Byte) (size mode : Nat) : Option Plan :=
  (s.merge inst size mode).or
    ((s.singleSized inst size mode).or (s.singleUnsized inst size mode))

/-- The rewrite of the last opcode byte, if the plan has one (rule R215). -/
def State.rewriteOpcode (s : State) : Option Byte → State
  | some b => s.writeByte .inst s.lastOpcodeIndex.toNat b
  | none => s

/-- `Commit` (rule R215). -/
def State.commit (s : State) (p : Plan) : State :=
  { (s.rewriteOpcode p.rewrite).append .inst p.bytes with lastOpcodeIndex := p.newLast }

/-- The capacity checks of rules R217 to R219 for a plan of `n` instruction bytes and `m` bytes for the
sink `sp` (DATA or ADDR): the space that overflows, lowest number first (90_conflicts.md C10). -/
def State.overflow (s : State) (sp : Space) (n m : Nat) : Option Space :=
  if s.interleaved then if s.hasRoom .inst (n + m) then none else some .inst
  else if sp = .data then
    if ¬ s.hasRoom .data m then some .data
    else if ¬ s.hasRoom .inst n then some .inst
    else none
  else if ¬ s.hasRoom .inst n then some .inst
  else if ¬ s.hasRoom sp m then some sp
  else none

/-- The state after an instruction is accumulated: commit the plan, append its operand bytes to the
sink, count the target bytes (rules R217 to R219). The reader starts again over the longer window
(log 10). -/
def State.accumulate (s : State) (p : Plan) (sp : Space) (operand : List Byte) (size : Nat) : State :=
  let t := (s.commit p).append (s.sink sp) operand
  { t with
    winTargetLen := t.winTargetLen + size
    serState := .inWindow
    reader := Reader.atStart s.cache.nearSize s.cache.sameSize }

/-- `Pre(size)` (rule R216): the fault of a size operand, if any. -/
def State.sizeFault (s : State) (a : Field) : Option (Cause × Field) :=
  if s.serState = .uninit then some (.badState, 0)
  else if s64 a < 0 then some (.negativeValue, a)
  else if s64 a = 0 then some (.badOperand, a)
  else if (max32 : Int) < s.winSrcSize + s.winTargetLen + s64 a then some (.badOperand, a)
  else none

/-- Plan, check capacity and accumulate one instruction (rules R217 to R219). `s` is the state the plan
and the checks are made in, `t` the state the instruction is accumulated in (for COPY, with the cache
updated). -/
def serResult (s t : State) (inst : Byte) (size mode : Nat) (sp : Space) (operand : List Byte)
    (r0 r1 : Field) : Result :=
  match s.plan inst size mode with
  | none => .stuck .noOpcode
  | some p =>
    match s.overflow sp p.bytes.length operand.length with
    | some full => .raise .capacity (field full.number)
    | none => .ok (t.accumulate p sp operand size) r0 r1 0 0

/-! ### The commands -/

/-- `SER_START` (rule R211). -/
def execSerStart (flags : Field) (s : State) : Host.Outcome State Fault Refusal :=
  command 0x60 s <|
    if s.serState ≠ .uninit then s.badState
    else if 3 < u64 flags then .raise .badOperand flags
    else if s.ctValid = false then .raise .badState 0x100
    else if s.ctMaxMode < 1 + s.cache.nearSize + s.cache.sameSize then .raise .badState 0x200
    else if ¬ s.hasRoom .out 5 then .raise .capacity (field Space.out.number)
    else
      let t := ((s.setFormatFlags (u64 flags)).clearWindow).append .out
        [0xD6, 0xC3, 0xC4, if u64 flags = 0 then 0x00 else 0x53, 0x00]
      .ok { t with winSrcMode := .none, winSrcSize := 0, winSrcPos := 0, serState := .ready }
        (field 5) 0 0 0

/-- `SER_WINDOW` (rule R213). -/
def execSerWindow (mode size pos : Field) (s : State) : Host.Outcome State Fault Refusal :=
  command 0x61 s <|
    if s.serState ≠ .ready then s.badState
    else
      match WinSource.ofNumber (u64 mode) with
      | none => .raise .badOperand mode
      | some m =>
        if max32 < u64 size then .raise .badOperand size
        else if max32 < u64 pos then .raise .badOperand pos
        else
          .done { s with
            winSrcMode := m
            winSrcSize := if u64 mode = 0 then 0 else u64 size
            winSrcPos := if u64 mode = 0 then 0 else u64 pos }

/-- `SER_ADD` (rule R217). -/
def execSerAdd (tpos size : Field) (s : State) : Host.Outcome State Fault Refusal :=
  command 0x62 s <|
    match s.sizeFault size with
    | some (c, i) => .raise c i
    | none =>
      if max32 < u64 tpos ∨ s.tgtSize < u64 tpos + u64 size then .raise .badOperand tpos
      else serResult s s instAdd (u64 size) 0 .data (s.readBytes .tgt (u64 tpos) (u64 size)) 0 0

/-- `SER_RUN` (rule R218). -/
def execSerRun (size byte : Field) (s : State) : Host.Outcome State Fault Refusal :=
  command 0x63 s <|
    match s.sizeFault size with
    | some (c, i) => .raise c i
    | none =>
      if 255 < u64 byte then .raise .badOperand byte
      else serResult s s instRun (u64 size) 0 .data [BitVec.ofNat 8 (u64 byte)] 0 0

/-- The address field of a COPY (30_encoding.md rule R102): one byte for a SAME mode, else a varint. -/
def AddrCache.addressField (c : AddrCache) (mode value : Nat) : List Byte :=
  if 2 + c.nearSize ≤ mode then [byte value] else varintEncode value

/-- `SER_COPY` (rule R219). -/
def execSerCopy (addr size : Field) (s : State) : Host.Outcome State Fault Refusal :=
  command 0x64 s <|
    match s.sizeFault size with
    | some (c, i) => .raise c i
    | none =>
      if s64 addr < 0 ∨ (s.hereAddress : Int) ≤ s64 addr then .raise .badOperand addr
      else
        let a := (s64 addr).toNat
        let ch := s.cache.choose a s.hereAddress
        serResult s { s with cache := s.cache.update a } instCopy (u64 size) ch.mode .addr
          (s.cache.addressField ch.mode ch.value) (field ch.mode) (field ch.value)

/-- `SER_CHECKSUM` (rule R220). -/
def execSerChecksum (value : Field) (s : State) : Host.Outcome State Fault Refusal :=
  command 0x65 s <|
    if s.serState = .uninit then .raise .badState 0
    else if s.checksumOn = false then .raise .badState 0x300
    else if 2 ^ 32 ≤ u64 value then .raise .badOperand value
    else .done { s with winChecksum := u64 value, winHasChecksum := true }

/-- The Win_Indicator byte (30_encoding.md rule R105). -/
def State.winIndicator (s : State) : Byte :=
  byte (s.winSrcMode.code + if s.winHasChecksum then 4 else 0)

/-- Fields (4) to (9) of the window header (30_encoding.md rule R106). -/
def State.windowHeader (s : State) : List Byte :=
  varintEncode s.winTargetLen ++ [0x00] ++ varintEncode s.dataLen ++ varintEncode s.instLen ++
    varintEncode s.addrLen ++ (if s.winHasChecksum then varintEncode s.winChecksum else [])

/-- The body of the window: the three sections (30_encoding.md rules R108, R109). -/
def State.windowBody (s : State) : List Byte :=
  s.readBytes .data 0 s.dataLen ++ s.readBytes .inst 0 s.instLen ++ s.readBytes .addr 0 s.addrLen

/-- The whole window on the wire (30_encoding.md rules R105 to R110, rule R221). -/
def State.windowBytes (s : State) : List Byte :=
  [s.winIndicator] ++
    (if s.winSrcMode = .none then [] else varintEncode s.winSrcSize ++ varintEncode s.winSrcPos) ++
    varintEncode (s.windowHeader.length + s.windowBody.length) ++ s.windowHeader ++ s.windowBody

/-- `SER_OUTPUT` (rule R221). -/
def execSerOutput (s : State) : Host.Outcome State Fault Refusal :=
  command 0x66 s <|
    if s.serState = .uninit then .raise .badState 0
    else if s.winTargetLen = 0 then .ok { s.clearWindow with serState := .ready } (field 0) 0 0 0
    else if ¬ s.hasRoom .out s.windowBytes.length then .raise .capacity (field Space.out.number)
    else
      .ok { (s.append .out s.windowBytes).clearWindow with serState := .ready }
        (field s.windowBytes.length) 0 0 0

/-- `SER_FINISH` (rule R223). -/
def execSerFinish (s : State) : Host.Outcome State Fault Refusal :=
  command 0x67 s <|
    if s.serState = .uninit then .raise .badState 0
    else if s.serState = .inWindow then .raise .pendingWindow (field s.winTargetLen)
    else .done { s with serState := .uninit }

/-- `OUT_CLEAR` (rule R224). -/
def execOutClear (s : State) : Host.Outcome State Fault Refusal :=
  command 0x68 s (.done { s with outLen := 0 })

end Sys2Proof.Machine
end

