-- ==== Sys2Proof/Machine/WindowReader.lean ====
section
/-! DEFINITION. What an opcode byte of an instructions section means (30_encoding.md rules R95, R102, R103;
45_serializer.md rule R225 d).

The block executes no delta instruction; rule R95 says what each opcode byte stands for and where its
operands are. The model's reader applies that rule to the window being accumulated: INST (and DATA and
ADDR in the standard format), the code table, the cache sizes and the source segment size of the block,
with a cache of its own that is all zero at the start of the window. A turn changes only the field
`reader` (log 9). -/

namespace Sys2Proof.Machine

/-- The positions and the cache while one opcode byte and its operands are read. -/
structure ReadPos where
  instPos : Nat
  dataPos : Nat
  addrPos : Nat
  produced : Nat
  cache : AddrCache
  deriving DecidableEq, Repr

/-- The outcome of reading a part of a group. -/
inductive ReadStep (α : Type) where
  | ok (value : α)
  | stop (why : ReadEnd)
  deriving DecidableEq, Repr

/-- Continue after a part that was read. -/
def ReadStep.bind {α β : Type} (r : ReadStep α) (f : α → ReadStep β) : ReadStep β :=
  match r with
  | .ok a => f a
  | .stop w => .stop w

/-- The size of a half: its size field, or the varint that follows when the field is 0 (rule R95). -/
def State.readSize (s : State) (h : Half) (p : ReadPos) : ReadStep (Nat × ReadPos) :=
  if h.size ≠ 0 then .ok (h.size.toNat, p)
  else
    match varintParse .w32 (s.readByte .inst) p.instPos s.instLen with
    | .ok v q => .ok (v, { p with instPos := q })
    | .endOfData => .stop .endOfData
    | .error => .stop (.malformed .varintOverflow)

/-- Where the operands of a sink are read from next (rules R95, R214). -/
def State.sinkPos (s : State) (sp : Space) (p : ReadPos) : Nat :=
  if s.interleaved then p.instPos else if sp = .data then p.dataPos else p.addrPos

/-- The positions with the next operand of a sink at `q`. -/
def State.setSinkPos (s : State) (sp : Space) (p : ReadPos) (q : Nat) : ReadPos :=
  if s.interleaved then { p with instPos := q }
  else if sp = .data then { p with dataPos := q }
  else { p with addrPos := q }

/-- The next `n` bytes of the data sink (rules R95, R103). -/
def State.readData (s : State) (n : Nat) (p : ReadPos) : ReadStep (List Byte × ReadPos) :=
  let a := s.sinkPos .data p
  if a + n ≤ s.len (s.sink .data) then
    .ok (s.readBytes (s.sink .data) a n, s.setSinkPos .data p (a + n))
  else .stop .endOfData

/-- The next address field (rules R95, R102; 43_address_cache.md rules R171, R177), for a COPY whose
first output byte stands at the source segment size plus the bytes produced so far (rule R170). -/
def State.readAddress (s : State) (mode : Nat) (p : ReadPos) : ReadStep (Nat × ReadPos) :=
  match p.cache.decode (s.readByte (s.sink .addr)) (s.sinkPos .addr p) (s.len (s.sink .addr))
      ((s.winSrcSize + p.produced : Nat) : Int) mode with
  | .ok a q => .ok (a, { s.setSinkPos .addr p q with cache := p.cache.update a })
  | .endOfData => .stop .endOfData
  | .error c => .stop (.malformed c)

/-- The operands of a half that is present, its size being known (rule R95). -/
def State.readOperands (s : State) (h : Half) (size : Nat) (p : ReadPos) :
    ReadStep (Delta × ReadPos) :=
  if h.inst = instAdd then
    (s.readData size p).bind fun (bytes, q) => .ok (.add size bytes, q)
  else if h.inst = instRun then
    (s.readData 1 p).bind fun (bytes, q) => .ok (.run size (bytes.headD 0), q)
  else if h.inst = instCopy then
    (s.readAddress h.mode.toNat p).bind fun (a, q) => .ok (.copy size h.mode.toNat a, q)
  else .stop .invalidOpcode

/-- One half of an entry (rule R95): nothing if it is absent. The sizes and operands come in the order
size, operands in both formats; in the standard format they are in different sections. -/
def State.readHalf (s : State) (h : Half) (p : ReadPos) : ReadStep (List Delta × ReadPos) :=
  if h.inst = instNoop then .ok ([], p)
  else
    (s.readSize h p).bind fun (size, q) =>
      (s.readOperands h size q).bind fun (d, r) =>
        .ok ([d], { r with produced := r.produced + size })

/-- Both halves of an entry, in order (rule R95). -/
def State.readEntry (s : State) (e : CtEntry) (p : ReadPos) : ReadStep (List Delta × ReadPos) :=
  (s.readHalf e.first p).bind fun (d1, q) =>
    (s.readHalf e.second q).bind fun (d2, r) => .ok (d1 ++ d2, r)

/-- The positions after the opcode byte itself. -/
def Reader.afterOpcode (r : Reader) : ReadPos :=
  { instPos := r.instPos + 1, dataPos := r.dataPos, addrPos := r.addrPos, produced := r.produced,
    cache := r.cache }

/-- The reader after a group that was read: the positions moved, the delta instructions appended. -/
def Reader.advance (r : Reader) (ds : List Delta) (p : ReadPos) : Reader :=
  { instPos := p.instPos, dataPos := p.dataPos, addrPos := p.addrPos, produced := p.produced,
    cache := p.cache, deltas := r.deltas ++ ds, last := .ok }

/-- The reader after the opcode byte `op`: on a missing or malformed operand only the reason is
recorded, so that the turn can be taken again (60_exceptions.md rule R268; log 11). -/
def State.readerAfter (s : State) (op : Byte) : Reader :=
  match s.readEntry (s.ctEntry op.toNat) s.reader.afterOpcode with
  | .ok (ds, p) => s.reader.advance ds p
  | .stop w => { s.reader with last := w }

/-- The meaning of the opcode byte `op` of an instructions section (rule R95). -/
def readOpcode (op : Byte) (s : State) : Host.Outcome State Fault Refusal :=
  .next { s with reader := s.readerAfter op }

/-- A turn of the reader with no opcode byte left below INST_LEN: nothing is read. -/
def State.readerAtEnd (s : State) : State := { s with reader := { s.reader with last := .endOfData } }

end Sys2Proof.Machine
end

