-- ==== Sys2Proof/Machine/OpcodeRows.lean ====
section
/-! DEFINITION. The 256 opcode bytes of an instructions section (30_encoding.md rules R95 to R101).

Each is one turn of the reader of `WindowReader` with its own opcode number: the byte stands for the
code table's entry of that number (rule R95), which in the default table is the entry the row of
spec/opcode_table.json names (rules R96 to R101, `defaultEntry`). -/

namespace Sys2Proof.Machine

def execCt00 (s : State) : Host.Outcome State Fault Refusal := readOpcode 0x00 s
def execCt01 (s : State) : Host.Outcome State Fault Refusal := readOpcode 0x01 s
def execCt02 (s : State) : Host.Outcome State Fault Refusal := readOpcode 0x02 s
def execCt03 (s : State) : Host.Outcome State Fault Refusal := readOpcode 0x03 s
def execCt04 (s : State) : Host.Outcome State Fault Refusal := readOpcode 0x04 s
def execCt05 (s : State) : Host.Outcome State Fault Refusal := readOpcode 0x05 s
def execCt06 (s : State) : Host.Outcome State Fault Refusal := readOpcode 0x06 s
def execCt07 (s : State) : Host.Outcome State Fault Refusal := readOpcode 0x07 s
def execCt08 (s : State) : Host.Outcome State Fault Refusal := readOpcode 0x08 s
def execCt09 (s : State) : Host.Outcome State Fault Refusal := readOpcode 0x09 s
def execCt0A (s : State) : Host.Outcome State Fault Refusal := readOpcode 0x0A s
def execCt0B (s : State) : Host.Outcome State Fault Refusal := readOpcode 0x0B s
def execCt0C (s : State) : Host.Outcome State Fault Refusal := readOpcode 0x0C s
def execCt0D (s : State) : Host.Outcome State Fault Refusal := readOpcode 0x0D s
def execCt0E (s : State) : Host.Outcome State Fault Refusal := readOpcode 0x0E s
def execCt0F (s : State) : Host.Outcome State Fault Refusal := readOpcode 0x0F s
def execCt10 (s : State) : Host.Outcome State Fault Refusal := readOpcode 0x10 s
def execCt11 (s : State) : Host.Outcome State Fault Refusal := readOpcode 0x11 s
def execCt12 (s : State) : Host.Outcome State Fault Refusal := readOpcode 0x12 s
def execCt13 (s : State) : Host.Outcome State Fault Refusal := readOpcode 0x13 s
def execCt14 (s : State) : Host.Outcome State Fault Refusal := readOpcode 0x14 s
def execCt15 (s : State) : Host.Outcome State Fault Refusal := readOpcode 0x15 s
def execCt16 (s : State) : Host.Outcome State Fault Refusal := readOpcode 0x16 s
def execCt17 (s : State) : Host.Outcome State Fault Refusal := readOpcode 0x17 s
def execCt18 (s : State) : Host.Outcome State Fault Refusal := readOpcode 0x18 s
def execCt19 (s : State) : Host.Outcome State Fault Refusal := readOpcode 0x19 s
def execCt1A (s : State) : Host.Outcome State Fault Refusal := readOpcode 0x1A s
def execCt1B (s : State) : Host.Outcome State Fault Refusal := readOpcode 0x1B s
def execCt1C (s : State) : Host.Outcome State Fault Refusal := readOpcode 0x1C s
def execCt1D (s : State) : Host.Outcome State Fault Refusal := readOpcode 0x1D s
def execCt1E (s : State) : Host.Outcome State Fault Refusal := readOpcode 0x1E s
def execCt1F (s : State) : Host.Outcome State Fault Refusal := readOpcode 0x1F s
def execCt20 (s : State) : Host.Outcome State Fault Refusal := readOpcode 0x20 s
def execCt21 (s : State) : Host.Outcome State Fault Refusal := readOpcode 0x21 s
def execCt22 (s : State) : Host.Outcome State Fault Refusal := readOpcode 0x22 s
def execCt23 (s : State) : Host.Outcome State Fault Refusal := readOpcode 0x23 s
def execCt24 (s : State) : Host.Outcome State Fault Refusal := readOpcode 0x24 s
def execCt25 (s : State) : Host.Outcome State Fault Refusal := readOpcode 0x25 s
def execCt26 (s : State) : Host.Outcome State Fault Refusal := readOpcode 0x26 s
def execCt27 (s : State) : Host.Outcome State Fault Refusal := readOpcode 0x27 s
def execCt28 (s : State) : Host.Outcome State Fault Refusal := readOpcode 0x28 s
def execCt29 (s : State) : Host.Outcome State Fault Refusal := readOpcode 0x29 s
def execCt2A (s : State) : Host.Outcome State Fault Refusal := readOpcode 0x2A s
def execCt2B (s : State) : Host.Outcome State Fault Refusal := readOpcode 0x2B s
def execCt2C (s : State) : Host.Outcome State Fault Refusal := readOpcode 0x2C s
def execCt2D (s : State) : Host.Outcome State Fault Refusal := readOpcode 0x2D s
def execCt2E (s : State) : Host.Outcome State Fault Refusal := readOpcode 0x2E s
def execCt2F (s : State) : Host.Outcome State Fault Refusal := readOpcode 0x2F s
def execCt30 (s : State) : Host.Outcome State Fault Refusal := readOpcode 0x30 s
def execCt31 (s : State) : Host.Outcome State Fault Refusal := readOpcode 0x31 s
def execCt32 (s : State) : Host.Outcome State Fault Refusal := readOpcode 0x32 s
def execCt33 (s : State) : Host.Outcome State Fault Refusal := readOpcode 0x33 s
def execCt34 (s : State) : Host.Outcome State Fault Refusal := readOpcode 0x34 s
def execCt35 (s : State) : Host.Outcome State Fault Refusal := readOpcode 0x35 s
def execCt36 (s : State) : Host.Outcome State Fault Refusal := readOpcode 0x36 s
def execCt37 (s : State) : Host.Outcome State Fault Refusal := readOpcode 0x37 s
def execCt38 (s : State) : Host.Outcome State Fault Refusal := readOpcode 0x38 s
def execCt39 (s : State) : Host.Outcome State Fault Refusal := readOpcode 0x39 s
def execCt3A (s : State) : Host.Outcome State Fault Refusal := readOpcode 0x3A s
def execCt3B (s : State) : Host.Outcome State Fault Refusal := readOpcode 0x3B s
def execCt3C (s : State) : Host.Outcome State Fault Refusal := readOpcode 0x3C s
def execCt3D (s : State) : Host.Outcome State Fault Refusal := readOpcode 0x3D s
def execCt3E (s : State) : Host.Outcome State Fault Refusal := readOpcode 0x3E s
def execCt3F (s : State) : Host.Outcome State Fault Refusal := readOpcode 0x3F s
def execCt40 (s : State) : Host.Outcome State Fault Refusal := readOpcode 0x40 s
def execCt41 (s : State) : Host.Outcome State Fault Refusal := readOpcode 0x41 s
def execCt42 (s : State) : Host.Outcome State Fault Refusal := readOpcode 0x42 s
def execCt43 (s : State) : Host.Outcome State Fault Refusal := readOpcode 0x43 s
def execCt44 (s : State) : Host.Outcome State Fault Refusal := readOpcode 0x44 s
def execCt45 (s : State) : Host.Outcome State Fault Refusal := readOpcode 0x45 s
def execCt46 (s : State) : Host.Outcome State Fault Refusal := readOpcode 0x46 s
def execCt47 (s : State) : Host.Outcome State Fault Refusal := readOpcode 0x47 s
def execCt48 (s : State) : Host.Outcome State Fault Refusal := readOpcode 0x48 s
def execCt49 (s : State) : Host.Outcome State Fault Refusal := readOpcode 0x49 s
def execCt4A (s : State) : Host.Outcome State Fault Refusal := readOpcode 0x4A s
def execCt4B (s : State) : Host.Outcome State Fault Refusal := readOpcode 0x4B s
def execCt4C (s : State) : Host.Outcome State Fault Refusal := readOpcode 0x4C s
def execCt4D (s : State) : Host.Outcome State Fault Refusal := readOpcode 0x4D s
def execCt4E (s : State) : Host.Outcome State Fault Refusal := readOpcode 0x4E s
def execCt4F (s : State) : Host.Outcome State Fault Refusal := readOpcode 0x4F s
def execCt50 (s : State) : Host.Outcome State Fault Refusal := readOpcode 0x50 s
def execCt51 (s : State) : Host.Outcome State Fault Refusal := readOpcode 0x51 s
def execCt52 (s : State) : Host.Outcome State Fault Refusal := readOpcode 0x52 s
def execCt53 (s : State) : Host.Outcome State Fault Refusal := readOpcode 0x53 s
def execCt54 (s : State) : Host.Outcome State Fault Refusal := readOpcode 0x54 s
def execCt55 (s : State) : Host.Outcome State Fault Refusal := readOpcode 0x55 s
def execCt56 (s : State) : Host.Outcome State Fault Refusal := readOpcode 0x56 s
def execCt57 (s : State) : Host.Outcome State Fault Refusal := readOpcode 0x57 s
def execCt58 (s : State) : Host.Outcome State Fault Refusal := readOpcode 0x58 s
def execCt59 (s : State) : Host.Outcome State Fault Refusal := readOpcode 0x59 s
def execCt5A (s : State) : Host.Outcome State Fault Refusal := readOpcode 0x5A s
def execCt5B (s : State) : Host.Outcome State Fault Refusal := readOpcode 0x5B s
def execCt5C (s : State) : Host.Outcome State Fault Refusal := readOpcode 0x5C s
def execCt5D (s : State) : Host.Outcome State Fault Refusal := readOpcode 0x5D s
def execCt5E (s : State) : Host.Outcome State Fault Refusal := readOpcode 0x5E s
def execCt5F (s : State) : Host.Outcome State Fault Refusal := readOpcode 0x5F s
def execCt60 (s : State) : Host.Outcome State Fault Refusal := readOpcode 0x60 s
def execCt61 (s : State) : Host.Outcome State Fault Refusal := readOpcode 0x61 s
def execCt62 (s : State) : Host.Outcome State Fault Refusal := readOpcode 0x62 s
def execCt63 (s : State) : Host.Outcome State Fault Refusal := readOpcode 0x63 s
def execCt64 (s : State) : Host.Outcome State Fault Refusal := readOpcode 0x64 s
def execCt65 (s : State) : Host.Outcome State Fault Refusal := readOpcode 0x65 s
def execCt66 (s : State) : Host.Outcome State Fault Refusal := readOpcode 0x66 s
def execCt67 (s : State) : Host.Outcome State Fault Refusal := readOpcode 0x67 s
def execCt68 (s : State) : Host.Outcome State Fault Refusal := readOpcode 0x68 s
def execCt69 (s : State) : Host.Outcome State Fault Refusal := readOpcode 0x69 s
def execCt6A (s : State) : Host.Outcome State Fault Refusal := readOpcode 0x6A s
def execCt6B (s : State) : Host.Outcome State Fault Refusal := readOpcode 0x6B s
def execCt6C (s : State) : Host.Outcome State Fault Refusal := readOpcode 0x6C s
def execCt6D (s : State) : Host.Outcome State Fault Refusal := readOpcode 0x6D s
def execCt6E (s : State) : Host.Outcome State Fault Refusal := readOpcode 0x6E s
def execCt6F (s : State) : Host.Outcome State Fault Refusal := readOpcode 0x6F s
def execCt70 (s : State) : Host.Outcome State Fault Refusal := readOpcode 0x70 s
def execCt71 (s : State) : Host.Outcome State Fault Refusal := readOpcode 0x71 s
def execCt72 (s : State) : Host.Outcome State Fault Refusal := readOpcode 0x72 s
def execCt73 (s : State) : Host.Outcome State Fault Refusal := readOpcode 0x73 s
def execCt74 (s : State) : Host.Outcome State Fault Refusal := readOpcode 0x74 s
def execCt75 (s : State) : Host.Outcome State Fault Refusal := readOpcode 0x75 s
def execCt76 (s : State) : Host.Outcome State Fault Refusal := readOpcode 0x76 s
def execCt77 (s : State) : Host.Outcome State Fault Refusal := readOpcode 0x77 s
def execCt78 (s : State) : Host.Outcome State Fault Refusal := readOpcode 0x78 s
def execCt79 (s : State) : Host.Outcome State Fault Refusal := readOpcode 0x79 s
def execCt7A (s : State) : Host.Outcome State Fault Refusal := readOpcode 0x7A s
def execCt7B (s : State) : Host.Outcome State Fault Refusal := readOpcode 0x7B s
def execCt7C (s : State) : Host.Outcome State Fault Refusal := readOpcode 0x7C s
def execCt7D (s : State) : Host.Outcome State Fault Refusal := readOpcode 0x7D s
def execCt7E (s : State) : Host.Outcome State Fault Refusal := readOpcode 0x7E s
def execCt7F (s : State) : Host.Outcome State Fault Refusal := readOpcode 0x7F s
def execCt80 (s : State) : Host.Outcome State Fault Refusal := readOpcode 0x80 s
def execCt81 (s : State) : Host.Outcome State Fault Refusal := readOpcode 0x81 s
def execCt82 (s : State) : Host.Outcome State Fault Refusal := readOpcode 0x82 s
def execCt83 (s : State) : Host.Outcome State Fault Refusal := readOpcode 0x83 s
def execCt84 (s : State) : Host.Outcome State Fault Refusal := readOpcode 0x84 s
def execCt85 (s : State) : Host.Outcome State Fault Refusal := readOpcode 0x85 s
def execCt86 (s : State) : Host.Outcome State Fault Refusal := readOpcode 0x86 s
def execCt87 (s : State) : Host.Outcome State Fault Refusal := readOpcode 0x87 s
def execCt88 (s : State) : Host.Outcome State Fault Refusal := readOpcode 0x88 s
def execCt89 (s : State) : Host.Outcome State Fault Refusal := readOpcode 0x89 s
def execCt8A (s : State) : Host.Outcome State Fault Refusal := readOpcode 0x8A s
def execCt8B (s : State) : Host.Outcome State Fault Refusal := readOpcode 0x8B s
def execCt8C (s : State) : Host.Outcome State Fault Refusal := readOpcode 0x8C s
def execCt8D (s : State) : Host.Outcome State Fault Refusal := readOpcode 0x8D s
def execCt8E (s : State) : Host.Outcome State Fault Refusal := readOpcode 0x8E s
def execCt8F (s : State) : Host.Outcome State Fault Refusal := readOpcode 0x8F s
def execCt90 (s : State) : Host.Outcome State Fault Refusal := readOpcode 0x90 s
def execCt91 (s : State) : Host.Outcome State Fault Refusal := readOpcode 0x91 s
def execCt92 (s : State) : Host.Outcome State Fault Refusal := readOpcode 0x92 s
def execCt93 (s : State) : Host.Outcome State Fault Refusal := readOpcode 0x93 s
def execCt94 (s : State) : Host.Outcome State Fault Refusal := readOpcode 0x94 s
def execCt95 (s : State) : Host.Outcome State Fault Refusal := readOpcode 0x95 s
def execCt96 (s : State) : Host.Outcome State Fault Refusal := readOpcode 0x96 s
def execCt97 (s : State) : Host.Outcome State Fault Refusal := readOpcode 0x97 s
def execCt98 (s : State) : Host.Outcome State Fault Refusal := readOpcode 0x98 s
def execCt99 (s : State) : Host.Outcome State Fault Refusal := readOpcode 0x99 s
def execCt9A (s : State) : Host.Outcome State Fault Refusal := readOpcode 0x9A s
def execCt9B (s : State) : Host.Outcome State Fault Refusal := readOpcode 0x9B s
def execCt9C (s : State) : Host.Outcome State Fault Refusal := readOpcode 0x9C s
def execCt9D (s : State) : Host.Outcome State Fault Refusal := readOpcode 0x9D s
def execCt9E (s : State) : Host.Outcome State Fault Refusal := readOpcode 0x9E s
def execCt9F (s : State) : Host.Outcome State Fault Refusal := readOpcode 0x9F s
def execCtA0 (s : State) : Host.Outcome State Fault Refusal := readOpcode 0xA0 s
def execCtA1 (s : State) : Host.Outcome State Fault Refusal := readOpcode 0xA1 s
def execCtA2 (s : State) : Host.Outcome State Fault Refusal := readOpcode 0xA2 s
def execCtA3 (s : State) : Host.Outcome State Fault Refusal := readOpcode 0xA3 s
def execCtA4 (s : State) : Host.Outcome State Fault Refusal := readOpcode 0xA4 s
def execCtA5 (s : State) : Host.Outcome State Fault Refusal := readOpcode 0xA5 s
def execCtA6 (s : State) : Host.Outcome State Fault Refusal := readOpcode 0xA6 s
def execCtA7 (s : State) : Host.Outcome State Fault Refusal := readOpcode 0xA7 s
def execCtA8 (s : State) : Host.Outcome State Fault Refusal := readOpcode 0xA8 s
def execCtA9 (s : State) : Host.Outcome State Fault Refusal := readOpcode 0xA9 s
def execCtAA (s : State) : Host.Outcome State Fault Refusal := readOpcode 0xAA s
def execCtAB (s : State) : Host.Outcome State Fault Refusal := readOpcode 0xAB s
def execCtAC (s : State) : Host.Outcome State Fault Refusal := readOpcode 0xAC s
def execCtAD (s : State) : Host.Outcome State Fault Refusal := readOpcode 0xAD s
def execCtAE (s : State) : Host.Outcome State Fault Refusal := readOpcode 0xAE s
def execCtAF (s : State) : Host.Outcome State Fault Refusal := readOpcode 0xAF s
def execCtB0 (s : State) : Host.Outcome State Fault Refusal := readOpcode 0xB0 s
def execCtB1 (s : State) : Host.Outcome State Fault Refusal := readOpcode 0xB1 s
def execCtB2 (s : State) : Host.Outcome State Fault Refusal := readOpcode 0xB2 s
def execCtB3 (s : State) : Host.Outcome State Fault Refusal := readOpcode 0xB3 s
def execCtB4 (s : State) : Host.Outcome State Fault Refusal := readOpcode 0xB4 s
def execCtB5 (s : State) : Host.Outcome State Fault Refusal := readOpcode 0xB5 s
def execCtB6 (s : State) : Host.Outcome State Fault Refusal := readOpcode 0xB6 s
def execCtB7 (s : State) : Host.Outcome State Fault Refusal := readOpcode 0xB7 s
def execCtB8 (s : State) : Host.Outcome State Fault Refusal := readOpcode 0xB8 s
def execCtB9 (s : State) : Host.Outcome State Fault Refusal := readOpcode 0xB9 s
def execCtBA (s : State) : Host.Outcome State Fault Refusal := readOpcode 0xBA s
def execCtBB (s : State) : Host.Outcome State Fault Refusal := readOpcode 0xBB s
def execCtBC (s : State) : Host.Outcome State Fault Refusal := readOpcode 0xBC s
def execCtBD (s : State) : Host.Outcome State Fault Refusal := readOpcode 0xBD s
def execCtBE (s : State) : Host.Outcome State Fault Refusal := readOpcode 0xBE s
def execCtBF (s : State) : Host.Outcome State Fault Refusal := readOpcode 0xBF s
def execCtC0 (s : State) : Host.Outcome State Fault Refusal := readOpcode 0xC0 s
def execCtC1 (s : State) : Host.Outcome State Fault Refusal := readOpcode 0xC1 s
def execCtC2 (s : State) : Host.Outcome State Fault Refusal := readOpcode 0xC2 s
def execCtC3 (s : State) : Host.Outcome State Fault Refusal := readOpcode 0xC3 s
def execCtC4 (s : State) : Host.Outcome State Fault Refusal := readOpcode 0xC4 s
def execCtC5 (s : State) : Host.Outcome State Fault Refusal := readOpcode 0xC5 s
def execCtC6 (s : State) : Host.Outcome State Fault Refusal := readOpcode 0xC6 s
def execCtC7 (s : State) : Host.Outcome State Fault Refusal := readOpcode 0xC7 s
def execCtC8 (s : State) : Host.Outcome State Fault Refusal := readOpcode 0xC8 s
def execCtC9 (s : State) : Host.Outcome State Fault Refusal := readOpcode 0xC9 s
def execCtCA (s : State) : Host.Outcome State Fault Refusal := readOpcode 0xCA s
def execCtCB (s : State) : Host.Outcome State Fault Refusal := readOpcode 0xCB s
def execCtCC (s : State) : Host.Outcome State Fault Refusal := readOpcode 0xCC s
def execCtCD (s : State) : Host.Outcome State Fault Refusal := readOpcode 0xCD s
def execCtCE (s : State) : Host.Outcome State Fault Refusal := readOpcode 0xCE s
def execCtCF (s : State) : Host.Outcome State Fault Refusal := readOpcode 0xCF s
def execCtD0 (s : State) : Host.Outcome State Fault Refusal := readOpcode 0xD0 s
def execCtD1 (s : State) : Host.Outcome State Fault Refusal := readOpcode 0xD1 s
def execCtD2 (s : State) : Host.Outcome State Fault Refusal := readOpcode 0xD2 s
def execCtD3 (s : State) : Host.Outcome State Fault Refusal := readOpcode 0xD3 s
def execCtD4 (s : State) : Host.Outcome State Fault Refusal := readOpcode 0xD4 s
def execCtD5 (s : State) : Host.Outcome State Fault Refusal := readOpcode 0xD5 s
def execCtD6 (s : State) : Host.Outcome State Fault Refusal := readOpcode 0xD6 s
def execCtD7 (s : State) : Host.Outcome State Fault Refusal := readOpcode 0xD7 s
def execCtD8 (s : State) : Host.Outcome State Fault Refusal := readOpcode 0xD8 s
def execCtD9 (s : State) : Host.Outcome State Fault Refusal := readOpcode 0xD9 s
def execCtDA (s : State) : Host.Outcome State Fault Refusal := readOpcode 0xDA s
def execCtDB (s : State) : Host.Outcome State Fault Refusal := readOpcode 0xDB s
def execCtDC (s : State) : Host.Outcome State Fault Refusal := readOpcode 0xDC s
def execCtDD (s : State) : Host.Outcome State Fault Refusal := readOpcode 0xDD s
def execCtDE (s : State) : Host.Outcome State Fault Refusal := readOpcode 0xDE s
def execCtDF (s : State) : Host.Outcome State Fault Refusal := readOpcode 0xDF s
def execCtE0 (s : State) : Host.Outcome State Fault Refusal := readOpcode 0xE0 s
def execCtE1 (s : State) : Host.Outcome State Fault Refusal := readOpcode 0xE1 s
def execCtE2 (s : State) : Host.Outcome State Fault Refusal := readOpcode 0xE2 s
def execCtE3 (s : State) : Host.Outcome State Fault Refusal := readOpcode 0xE3 s
def execCtE4 (s : State) : Host.Outcome State Fault Refusal := readOpcode 0xE4 s
def execCtE5 (s : State) : Host.Outcome State Fault Refusal := readOpcode 0xE5 s
def execCtE6 (s : State) : Host.Outcome State Fault Refusal := readOpcode 0xE6 s
def execCtE7 (s : State) : Host.Outcome State Fault Refusal := readOpcode 0xE7 s
def execCtE8 (s : State) : Host.Outcome State Fault Refusal := readOpcode 0xE8 s
def execCtE9 (s : State) : Host.Outcome State Fault Refusal := readOpcode 0xE9 s
def execCtEA (s : State) : Host.Outcome State Fault Refusal := readOpcode 0xEA s
def execCtEB (s : State) : Host.Outcome State Fault Refusal := readOpcode 0xEB s
def execCtEC (s : State) : Host.Outcome State Fault Refusal := readOpcode 0xEC s
def execCtED (s : State) : Host.Outcome State Fault Refusal := readOpcode 0xED s
def execCtEE (s : State) : Host.Outcome State Fault Refusal := readOpcode 0xEE s
def execCtEF (s : State) : Host.Outcome State Fault Refusal := readOpcode 0xEF s
def execCtF0 (s : State) : Host.Outcome State Fault Refusal := readOpcode 0xF0 s
def execCtF1 (s : State) : Host.Outcome State Fault Refusal := readOpcode 0xF1 s
def execCtF2 (s : State) : Host.Outcome State Fault Refusal := readOpcode 0xF2 s
def execCtF3 (s : State) : Host.Outcome State Fault Refusal := readOpcode 0xF3 s
def execCtF4 (s : State) : Host.Outcome State Fault Refusal := readOpcode 0xF4 s
def execCtF5 (s : State) : Host.Outcome State Fault Refusal := readOpcode 0xF5 s
def execCtF6 (s : State) : Host.Outcome State Fault Refusal := readOpcode 0xF6 s
def execCtF7 (s : State) : Host.Outcome State Fault Refusal := readOpcode 0xF7 s
def execCtF8 (s : State) : Host.Outcome State Fault Refusal := readOpcode 0xF8 s
def execCtF9 (s : State) : Host.Outcome State Fault Refusal := readOpcode 0xF9 s
def execCtFA (s : State) : Host.Outcome State Fault Refusal := readOpcode 0xFA s
def execCtFB (s : State) : Host.Outcome State Fault Refusal := readOpcode 0xFB s
def execCtFC (s : State) : Host.Outcome State Fault Refusal := readOpcode 0xFC s
def execCtFD (s : State) : Host.Outcome State Fault Refusal := readOpcode 0xFD s
def execCtFE (s : State) : Host.Outcome State Fault Refusal := readOpcode 0xFE s
def execCtFF (s : State) : Host.Outcome State Fault Refusal := readOpcode 0xFF s

end Sys2Proof.Machine
end

