-- ==== Sys2Proof/Machine/System.lean ====
section
/-! DEFINITION. The system commands (46_system.md rules R240 to R246). -/

namespace Sys2Proof.Machine

/-- `NOP` (rule R240). -/
def execNop (s : State) : Host.Outcome State Fault Refusal := command 0x00 s (.done s)

/-- `RESET` (rule R241). -/
def execReset (s : State) : Host.Outcome State Fault Refusal := command 0x01 s (.done s.fullReset)

/-- `SESSION_RESET` (rule R242). -/
def execSessionReset (s : State) : Host.Outcome State Fault Refusal :=
  command 0x02 s (.done s.sessionReset)

/-- `RDREG` (rule R243). -/
def execRdreg (reg : Field) (s : State) : Host.Outcome State Fault Refusal :=
  command 0x03 s <|
    match s.readReg (u64 reg) with
    | some v => .ok s v 0 0 0
    | none => .raise .badOperand reg

/-- `WRREG` (rule R244). -/
def execWrreg (reg value : Field) (s : State) : Host.Outcome State Fault Refusal :=
  command 0x04 s <|
    match s.writeRange (u64 reg) with
    | none => .raise .badOperand reg
    | some (lo, hi) =>
      if s64 value < lo ∨ hi < s64 value then .raise .badOperand value
      else .done (s.writeReg (u64 reg) (s64 value))

/-- One past the last address of a space that MEM_READ may read: its capacity for SRC, TGT, IN, its
length register for the append-only spaces (rule R245, 20_memory.md rule R67). -/
def State.readBound (s : State) : Space → Nat
  | .src => s.params.srcCap
  | .tgt => s.params.tgtCap
  | .inp => s.params.inCap
  | .data => s.dataLen
  | .inst => s.instLen
  | .addr => s.addrLen
  | .out => s.outLen

/-- `MEM_READ` (rule R245). -/
def execMemRead (space address : Field) (s : State) : Host.Outcome State Fault Refusal :=
  command 0x05 s <|
    match Space.ofNumber (u64 space) with
    | none => .raise .badOperand space
    | some sp =>
      if s.readBound sp ≤ u64 address then .raise .badOperand address
      else .ok s (field (s.readByte sp (u64 address)).toNat) 0 0 0

/-- The byte of SRC at `a` belongs to an indexed block (20_memory.md rule R68). -/
def State.srcIndexed (s : State) (a : Nat) : Bool :=
  s.bhReady && decide ((a : Int) < (s.bhLastBlock + 1) * s.params.b)

/-- The space a MEM_WRITE may write: SRC, TGT or IN (20_memory.md rule R67). -/
def Space.writable : Space → Bool
  | .src => true
  | .tgt => true
  | .inp => true
  | _ => false

/-- `MEM_WRITE` (rule R246). -/
def execMemWrite (space address byte : Field) (s : State) : Host.Outcome State Fault Refusal :=
  command 0x06 s <|
    match (Space.ofNumber (u64 space)).filter Space.writable with
    | none => .raise .badOperand space
    | some sp =>
      if Params.cap s.params sp ≤ u64 address then .raise .badOperand address
      else if 255 < u64 byte then .raise .badOperand byte
      else if sp == .src && s.srcIndexed (u64 address) then .raise .srcImmutable address
      else .done (s.writeByte sp (u64 address) (BitVec.ofNat 8 (u64 byte)))

end Sys2Proof.Machine
end

