-- ==== Sys2Proof/Machine/VarintUnit.lean ====
section
/-! DEFINITION. The commands of the varint unit (40_varint.md rules R125 to R131). -/

namespace Sys2Proof.Machine

/-- The operand checks of the length and encode commands (rules R125 to R128). -/
def varintOperandFault (width : VarWidth) (a0 : Field) : Option Cause :=
  if s64 a0 < 0 then some .negativeValue
  else if (width.max : Int) < s64 a0 then some .badOperand
  else none

/-- The length commands (rules R125, R126). -/
def varintLenResult (width : VarWidth) (a0 : Field) (s : State) : Result :=
  match varintOperandFault width a0 with
  | some c => .raise c a0
  | none => .ok s (field (varintLength (s64 a0).toNat)) 0 0 0

/-- The encode commands (rules R127, R128). -/
def varintEncResult (width : VarWidth) (a0 : Field) (s : State) : Result :=
  match varintOperandFault width a0 with
  | some c => .raise c a0
  | none =>
    let bytes := varintEncode (s64 a0).toNat
    if s.hasRoom .out bytes.length then .ok (s.append .out bytes) (field bytes.length) 0 0 0
    else .raise .capacity (field Space.out.number)

/-- The varint parse commands (rules R129, R130). -/
def varintParseResult (width : VarWidth) (s : State) : Result :=
  match varintParse width (s.readByte .inp) s.inCursor s.inLimit with
  | .endOfData => .endOfData
  | .error => .raise .varintOverflow (field s.inCursor)
  | .ok value p => .ok { s with inCursor := p } (field value) (field p) 0 0

/-- `VARINT_LEN32` (rule R125). -/
def execVarintLen32 (value : Field) (s : State) : Host.Outcome State Fault Refusal :=
  command 0x10 s (varintLenResult .w32 value s)

/-- `VARINT_LEN64` (rule R126): no value of `s64` is above `MAX64`. -/
def execVarintLen64 (value : Field) (s : State) : Host.Outcome State Fault Refusal :=
  command 0x11 s (varintLenResult .w64 value s)

/-- `VARINT_ENC32` (rule R127). -/
def execVarintEnc32 (value : Field) (s : State) : Host.Outcome State Fault Refusal :=
  command 0x12 s (varintEncResult .w32 value s)

/-- `VARINT_ENC64` (rule R128). -/
def execVarintEnc64 (value : Field) (s : State) : Host.Outcome State Fault Refusal :=
  command 0x13 s (varintEncResult .w64 value s)

/-- `VARINT_PARSE32` (rule R129). -/
def execVarintParse32 (s : State) : Host.Outcome State Fault Refusal :=
  command 0x14 s (varintParseResult .w32 s)

/-- `VARINT_PARSE64` (rule R130). -/
def execVarintParse64 (s : State) : Host.Outcome State Fault Refusal :=
  command 0x15 s (varintParseResult .w64 s)

/-- `PARSE_BYTE` (rule R131). -/
def execParseByte (s : State) : Host.Outcome State Fault Refusal :=
  command 0x16 s <|
    if s.inLimit ≤ s.inCursor then .endOfData
    else
      .ok { s with inCursor := s.inCursor + 1 } (field (s.readByte .inp s.inCursor).toNat)
        (field (s.inCursor + 1)) 0 0

end Sys2Proof.Machine
end

