-- ==== Sys2Proof/Machine/Dispatch.lean ====
section
/-! DEFINITION. The meaning of every instruction: one arm per constructor, each one direct call. -/

namespace Sys2Proof.Machine

def exec (i : Instr) (s : State) : Host.Outcome State Fault Refusal :=
  match i with
  | .nop => Sys2Proof.Machine.execNop s
  | .reset => Sys2Proof.Machine.execReset s
  | .sessionReset => Sys2Proof.Machine.execSessionReset s
  | .rdreg reg => Sys2Proof.Machine.execRdreg reg s
  | .wrreg reg value => Sys2Proof.Machine.execWrreg reg value s
  | .memRead space address => Sys2Proof.Machine.execMemRead space address s
  | .memWrite space address byte => Sys2Proof.Machine.execMemWrite space address byte s
  | .varintLen32 value => Sys2Proof.Machine.execVarintLen32 value s
  | .varintLen64 value => Sys2Proof.Machine.execVarintLen64 value s
  | .varintEnc32 value => Sys2Proof.Machine.execVarintEnc32 value s
  | .varintEnc64 value => Sys2Proof.Machine.execVarintEnc64 value s
  | .varintParse32 => Sys2Proof.Machine.execVarintParse32 s
  | .varintParse64 => Sys2Proof.Machine.execVarintParse64 s
  | .parseByte => Sys2Proof.Machine.execParseByte s
  | .rhInit => Sys2Proof.Machine.execRhInit s
  | .rhHash space offset => Sys2Proof.Machine.execRhHash space offset s
  | .rhUpdate old leaving entering => Sys2Proof.Machine.execRhUpdate old leaving entering s
  | .bhInit size offset populate => Sys2Proof.Machine.execBhInit size offset populate s
  | .bhAddThrough stop => Sys2Proof.Machine.execBhAddThrough stop s
  | .bhFirstMatch hash tpos => Sys2Proof.Machine.execBhFirstMatch hash tpos s
  | .bhNextMatch block tpos => Sys2Proof.Machine.execBhNextMatch block tpos s
  | .bhFindBest hash tpos => Sys2Proof.Machine.execBhFindBest hash tpos s
  | .bmClear => Sys2Proof.Machine.execBmClear s
  | .acConfig near same => Sys2Proof.Machine.execAcConfig near same s
  | .acReset => Sys2Proof.Machine.execAcReset s
  | .acEncode addr here => Sys2Proof.Machine.execAcEncode addr here s
  | .acDecode here mode => Sys2Proof.Machine.execAcDecode here mode s
  | .ctDefault => Sys2Proof.Machine.execCtDefault s
  | .ctWrite opcode entry => Sys2Proof.Machine.execCtWrite opcode entry s
  | .ctRead opcode => Sys2Proof.Machine.execCtRead opcode s
  | .ctValidate maxMode => Sys2Proof.Machine.execCtValidate maxMode s
  | .imFirst inst size mode => Sys2Proof.Machine.execImFirst inst size mode s
  | .imSecond first inst size mode => Sys2Proof.Machine.execImSecond first inst size mode s
  | .serStart flags => Sys2Proof.Machine.execSerStart flags s
  | .serWindow mode size pos => Sys2Proof.Machine.execSerWindow mode size pos s
  | .serAdd tpos size => Sys2Proof.Machine.execSerAdd tpos size s
  | .serRun size byte => Sys2Proof.Machine.execSerRun size byte s
  | .serCopy addr size => Sys2Proof.Machine.execSerCopy addr size s
  | .serChecksum value => Sys2Proof.Machine.execSerChecksum value s
  | .serOutput => Sys2Proof.Machine.execSerOutput s
  | .serFinish => Sys2Proof.Machine.execSerFinish s
  | .outClear => Sys2Proof.Machine.execOutClear s
  | .ct00 => Sys2Proof.Machine.execCt00 s
  | .ct01 => Sys2Proof.Machine.execCt01 s
  | .ct02 => Sys2Proof.Machine.execCt02 s
  | .ct03 => Sys2Proof.Machine.execCt03 s
  | .ct04 => Sys2Proof.Machine.execCt04 s
  | .ct05 => Sys2Proof.Machine.execCt05 s
  | .ct06 => Sys2Proof.Machine.execCt06 s
  | .ct07 => Sys2Proof.Machine.execCt07 s
  | .ct08 => Sys2Proof.Machine.execCt08 s
  | .ct09 => Sys2Proof.Machine.execCt09 s
  | .ct0A => Sys2Proof.Machine.execCt0A s
  | .ct0B => Sys2Proof.Machine.execCt0B s
  | .ct0C => Sys2Proof.Machine.execCt0C s
  | .ct0D => Sys2Proof.Machine.execCt0D s
  | .ct0E => Sys2Proof.Machine.execCt0E s
  | .ct0F => Sys2Proof.Machine.execCt0F s
  | .ct10 => Sys2Proof.Machine.execCt10 s
  | .ct11 => Sys2Proof.Machine.execCt11 s
  | .ct12 => Sys2Proof.Machine.execCt12 s
  | .ct13 => Sys2Proof.Machine.execCt13 s
  | .ct14 => Sys2Proof.Machine.execCt14 s
  | .ct15 => Sys2Proof.Machine.execCt15 s
  | .ct16 => Sys2Proof.Machine.execCt16 s
  | .ct17 => Sys2Proof.Machine.execCt17 s
  | .ct18 => Sys2Proof.Machine.execCt18 s
  | .ct19 => Sys2Proof.Machine.execCt19 s
  | .ct1A => Sys2Proof.Machine.execCt1A s
  | .ct1B => Sys2Proof.Machine.execCt1B s
  | .ct1C => Sys2Proof.Machine.execCt1C s
  | .ct1D => Sys2Proof.Machine.execCt1D s
  | .ct1E => Sys2Proof.Machine.execCt1E s
  | .ct1F => Sys2Proof.Machine.execCt1F s
  | .ct20 => Sys2Proof.Machine.execCt20 s
  | .ct21 => Sys2Proof.Machine.execCt21 s
  | .ct22 => Sys2Proof.Machine.execCt22 s
  | .ct23 => Sys2Proof.Machine.execCt23 s
  | .ct24 => Sys2Proof.Machine.execCt24 s
  | .ct25 => Sys2Proof.Machine.execCt25 s
  | .ct26 => Sys2Proof.Machine.execCt26 s
  | .ct27 => Sys2Proof.Machine.execCt27 s
  | .ct28 => Sys2Proof.Machine.execCt28 s
  | .ct29 => Sys2Proof.Machine.execCt29 s
  | .ct2A => Sys2Proof.Machine.execCt2A s
  | .ct2B => Sys2Proof.Machine.execCt2B s
  | .ct2C => Sys2Proof.Machine.execCt2C s
  | .ct2D => Sys2Proof.Machine.execCt2D s
  | .ct2E => Sys2Proof.Machine.execCt2E s
  | .ct2F => Sys2Proof.Machine.execCt2F s
  | .ct30 => Sys2Proof.Machine.execCt30 s
  | .ct31 => Sys2Proof.Machine.execCt31 s
  | .ct32 => Sys2Proof.Machine.execCt32 s
  | .ct33 => Sys2Proof.Machine.execCt33 s
  | .ct34 => Sys2Proof.Machine.execCt34 s
  | .ct35 => Sys2Proof.Machine.execCt35 s
  | .ct36 => Sys2Proof.Machine.execCt36 s
  | .ct37 => Sys2Proof.Machine.execCt37 s
  | .ct38 => Sys2Proof.Machine.execCt38 s
  | .ct39 => Sys2Proof.Machine.execCt39 s
  | .ct3A => Sys2Proof.Machine.execCt3A s
  | .ct3B => Sys2Proof.Machine.execCt3B s
  | .ct3C => Sys2Proof.Machine.execCt3C s
  | .ct3D => Sys2Proof.Machine.execCt3D s
  | .ct3E => Sys2Proof.Machine.execCt3E s
  | .ct3F => Sys2Proof.Machine.execCt3F s
  | .ct40 => Sys2Proof.Machine.execCt40 s
  | .ct41 => Sys2Proof.Machine.execCt41 s
  | .ct42 => Sys2Proof.Machine.execCt42 s
  | .ct43 => Sys2Proof.Machine.execCt43 s
  | .ct44 => Sys2Proof.Machine.execCt44 s
  | .ct45 => Sys2Proof.Machine.execCt45 s
  | .ct46 => Sys2Proof.Machine.execCt46 s
  | .ct47 => Sys2Proof.Machine.execCt47 s
  | .ct48 => Sys2Proof.Machine.execCt48 s
  | .ct49 => Sys2Proof.Machine.execCt49 s
  | .ct4A => Sys2Proof.Machine.execCt4A s
  | .ct4B => Sys2Proof.Machine.execCt4B s
  | .ct4C => Sys2Proof.Machine.execCt4C s
  | .ct4D => Sys2Proof.Machine.execCt4D s
  | .ct4E => Sys2Proof.Machine.execCt4E s
  | .ct4F => Sys2Proof.Machine.execCt4F s
  | .ct50 => Sys2Proof.Machine.execCt50 s
  | .ct51 => Sys2Proof.Machine.execCt51 s
  | .ct52 => Sys2Proof.Machine.execCt52 s
  | .ct53 => Sys2Proof.Machine.execCt53 s
  | .ct54 => Sys2Proof.Machine.execCt54 s
  | .ct55 => Sys2Proof.Machine.execCt55 s
  | .ct56 => Sys2Proof.Machine.execCt56 s
  | .ct57 => Sys2Proof.Machine.execCt57 s
  | .ct58 => Sys2Proof.Machine.execCt58 s
  | .ct59 => Sys2Proof.Machine.execCt59 s
  | .ct5A => Sys2Proof.Machine.execCt5A s
  | .ct5B => Sys2Proof.Machine.execCt5B s
  | .ct5C => Sys2Proof.Machine.execCt5C s
  | .ct5D => Sys2Proof.Machine.execCt5D s
  | .ct5E => Sys2Proof.Machine.execCt5E s
  | .ct5F => Sys2Proof.Machine.execCt5F s
  | .ct60 => Sys2Proof.Machine.execCt60 s
  | .ct61 => Sys2Proof.Machine.execCt61 s
  | .ct62 => Sys2Proof.Machine.execCt62 s
  | .ct63 => Sys2Proof.Machine.execCt63 s
  | .ct64 => Sys2Proof.Machine.execCt64 s
  | .ct65 => Sys2Proof.Machine.execCt65 s
  | .ct66 => Sys2Proof.Machine.execCt66 s
  | .ct67 => Sys2Proof.Machine.execCt67 s
  | .ct68 => Sys2Proof.Machine.execCt68 s
  | .ct69 => Sys2Proof.Machine.execCt69 s
  | .ct6A => Sys2Proof.Machine.execCt6A s
  | .ct6B => Sys2Proof.Machine.execCt6B s
  | .ct6C => Sys2Proof.Machine.execCt6C s
  | .ct6D => Sys2Proof.Machine.execCt6D s
  | .ct6E => Sys2Proof.Machine.execCt6E s
  | .ct6F => Sys2Proof.Machine.execCt6F s
  | .ct70 => Sys2Proof.Machine.execCt70 s
  | .ct71 => Sys2Proof.Machine.execCt71 s
  | .ct72 => Sys2Proof.Machine.execCt72 s
  | .ct73 => Sys2Proof.Machine.execCt73 s
  | .ct74 => Sys2Proof.Machine.execCt74 s
  | .ct75 => Sys2Proof.Machine.execCt75 s
  | .ct76 => Sys2Proof.Machine.execCt76 s
  | .ct77 => Sys2Proof.Machine.execCt77 s
  | .ct78 => Sys2Proof.Machine.execCt78 s
  | .ct79 => Sys2Proof.Machine.execCt79 s
  | .ct7A => Sys2Proof.Machine.execCt7A s
  | .ct7B => Sys2Proof.Machine.execCt7B s
  | .ct7C => Sys2Proof.Machine.execCt7C s
  | .ct7D => Sys2Proof.Machine.execCt7D s
  | .ct7E => Sys2Proof.Machine.execCt7E s
  | .ct7F => Sys2Proof.Machine.execCt7F s
  | .ct80 => Sys2Proof.Machine.execCt80 s
  | .ct81 => Sys2Proof.Machine.execCt81 s
  | .ct82 => Sys2Proof.Machine.execCt82 s
  | .ct83 => Sys2Proof.Machine.execCt83 s
  | .ct84 => Sys2Proof.Machine.execCt84 s
  | .ct85 => Sys2Proof.Machine.execCt85 s
  | .ct86 => Sys2Proof.Machine.execCt86 s
  | .ct87 => Sys2Proof.Machine.execCt87 s
  | .ct88 => Sys2Proof.Machine.execCt88 s
  | .ct89 => Sys2Proof.Machine.execCt89 s
  | .ct8A => Sys2Proof.Machine.execCt8A s
  | .ct8B => Sys2Proof.Machine.execCt8B s
  | .ct8C => Sys2Proof.Machine.execCt8C s
  | .ct8D => Sys2Proof.Machine.execCt8D s
  | .ct8E => Sys2Proof.Machine.execCt8E s
  | .ct8F => Sys2Proof.Machine.execCt8F s
  | .ct90 => Sys2Proof.Machine.execCt90 s
  | .ct91 => Sys2Proof.Machine.execCt91 s
  | .ct92 => Sys2Proof.Machine.execCt92 s
  | .ct93 => Sys2Proof.Machine.execCt93 s
  | .ct94 => Sys2Proof.Machine.execCt94 s
  | .ct95 => Sys2Proof.Machine.execCt95 s
  | .ct96 => Sys2Proof.Machine.execCt96 s
  | .ct97 => Sys2Proof.Machine.execCt97 s
  | .ct98 => Sys2Proof.Machine.execCt98 s
  | .ct99 => Sys2Proof.Machine.execCt99 s
  | .ct9A => Sys2Proof.Machine.execCt9A s
  | .ct9B => Sys2Proof.Machine.execCt9B s
  | .ct9C => Sys2Proof.Machine.execCt9C s
  | .ct9D => Sys2Proof.Machine.execCt9D s
  | .ct9E => Sys2Proof.Machine.execCt9E s
  | .ct9F => Sys2Proof.Machine.execCt9F s
  | .ctA0 => Sys2Proof.Machine.execCtA0 s
  | .ctA1 => Sys2Proof.Machine.execCtA1 s
  | .ctA2 => Sys2Proof.Machine.execCtA2 s
  | .ctA3 => Sys2Proof.Machine.execCtA3 s
  | .ctA4 => Sys2Proof.Machine.execCtA4 s
  | .ctA5 => Sys2Proof.Machine.execCtA5 s
  | .ctA6 => Sys2Proof.Machine.execCtA6 s
  | .ctA7 => Sys2Proof.Machine.execCtA7 s
  | .ctA8 => Sys2Proof.Machine.execCtA8 s
  | .ctA9 => Sys2Proof.Machine.execCtA9 s
  | .ctAA => Sys2Proof.Machine.execCtAA s
  | .ctAB => Sys2Proof.Machine.execCtAB s
  | .ctAC => Sys2Proof.Machine.execCtAC s
  | .ctAD => Sys2Proof.Machine.execCtAD s
  | .ctAE => Sys2Proof.Machine.execCtAE s
  | .ctAF => Sys2Proof.Machine.execCtAF s
  | .ctB0 => Sys2Proof.Machine.execCtB0 s
  | .ctB1 => Sys2Proof.Machine.execCtB1 s
  | .ctB2 => Sys2Proof.Machine.execCtB2 s
  | .ctB3 => Sys2Proof.Machine.execCtB3 s
  | .ctB4 => Sys2Proof.Machine.execCtB4 s
  | .ctB5 => Sys2Proof.Machine.execCtB5 s
  | .ctB6 => Sys2Proof.Machine.execCtB6 s
  | .ctB7 => Sys2Proof.Machine.execCtB7 s
  | .ctB8 => Sys2Proof.Machine.execCtB8 s
  | .ctB9 => Sys2Proof.Machine.execCtB9 s
  | .ctBA => Sys2Proof.Machine.execCtBA s
  | .ctBB => Sys2Proof.Machine.execCtBB s
  | .ctBC => Sys2Proof.Machine.execCtBC s
  | .ctBD => Sys2Proof.Machine.execCtBD s
  | .ctBE => Sys2Proof.Machine.execCtBE s
  | .ctBF => Sys2Proof.Machine.execCtBF s
  | .ctC0 => Sys2Proof.Machine.execCtC0 s
  | .ctC1 => Sys2Proof.Machine.execCtC1 s
  | .ctC2 => Sys2Proof.Machine.execCtC2 s
  | .ctC3 => Sys2Proof.Machine.execCtC3 s
  | .ctC4 => Sys2Proof.Machine.execCtC4 s
  | .ctC5 => Sys2Proof.Machine.execCtC5 s
  | .ctC6 => Sys2Proof.Machine.execCtC6 s
  | .ctC7 => Sys2Proof.Machine.execCtC7 s
  | .ctC8 => Sys2Proof.Machine.execCtC8 s
  | .ctC9 => Sys2Proof.Machine.execCtC9 s
  | .ctCA => Sys2Proof.Machine.execCtCA s
  | .ctCB => Sys2Proof.Machine.execCtCB s
  | .ctCC => Sys2Proof.Machine.execCtCC s
  | .ctCD => Sys2Proof.Machine.execCtCD s
  | .ctCE => Sys2Proof.Machine.execCtCE s
  | .ctCF => Sys2Proof.Machine.execCtCF s
  | .ctD0 => Sys2Proof.Machine.execCtD0 s
  | .ctD1 => Sys2Proof.Machine.execCtD1 s
  | .ctD2 => Sys2Proof.Machine.execCtD2 s
  | .ctD3 => Sys2Proof.Machine.execCtD3 s
  | .ctD4 => Sys2Proof.Machine.execCtD4 s
  | .ctD5 => Sys2Proof.Machine.execCtD5 s
  | .ctD6 => Sys2Proof.Machine.execCtD6 s
  | .ctD7 => Sys2Proof.Machine.execCtD7 s
  | .ctD8 => Sys2Proof.Machine.execCtD8 s
  | .ctD9 => Sys2Proof.Machine.execCtD9 s
  | .ctDA => Sys2Proof.Machine.execCtDA s
  | .ctDB => Sys2Proof.Machine.execCtDB s
  | .ctDC => Sys2Proof.Machine.execCtDC s
  | .ctDD => Sys2Proof.Machine.execCtDD s
  | .ctDE => Sys2Proof.Machine.execCtDE s
  | .ctDF => Sys2Proof.Machine.execCtDF s
  | .ctE0 => Sys2Proof.Machine.execCtE0 s
  | .ctE1 => Sys2Proof.Machine.execCtE1 s
  | .ctE2 => Sys2Proof.Machine.execCtE2 s
  | .ctE3 => Sys2Proof.Machine.execCtE3 s
  | .ctE4 => Sys2Proof.Machine.execCtE4 s
  | .ctE5 => Sys2Proof.Machine.execCtE5 s
  | .ctE6 => Sys2Proof.Machine.execCtE6 s
  | .ctE7 => Sys2Proof.Machine.execCtE7 s
  | .ctE8 => Sys2Proof.Machine.execCtE8 s
  | .ctE9 => Sys2Proof.Machine.execCtE9 s
  | .ctEA => Sys2Proof.Machine.execCtEA s
  | .ctEB => Sys2Proof.Machine.execCtEB s
  | .ctEC => Sys2Proof.Machine.execCtEC s
  | .ctED => Sys2Proof.Machine.execCtED s
  | .ctEE => Sys2Proof.Machine.execCtEE s
  | .ctEF => Sys2Proof.Machine.execCtEF s
  | .ctF0 => Sys2Proof.Machine.execCtF0 s
  | .ctF1 => Sys2Proof.Machine.execCtF1 s
  | .ctF2 => Sys2Proof.Machine.execCtF2 s
  | .ctF3 => Sys2Proof.Machine.execCtF3 s
  | .ctF4 => Sys2Proof.Machine.execCtF4 s
  | .ctF5 => Sys2Proof.Machine.execCtF5 s
  | .ctF6 => Sys2Proof.Machine.execCtF6 s
  | .ctF7 => Sys2Proof.Machine.execCtF7 s
  | .ctF8 => Sys2Proof.Machine.execCtF8 s
  | .ctF9 => Sys2Proof.Machine.execCtF9 s
  | .ctFA => Sys2Proof.Machine.execCtFA s
  | .ctFB => Sys2Proof.Machine.execCtFB s
  | .ctFC => Sys2Proof.Machine.execCtFC s
  | .ctFD => Sys2Proof.Machine.execCtFD s
  | .ctFE => Sys2Proof.Machine.execCtFE s
  | .ctFF => Sys2Proof.Machine.execCtFF s

end Sys2Proof.Machine
end

