-- ==== Sys2Proof/Machine/Step.lean ====
section
/-! DEFINITION. One step: the block takes the next of what the host presents (00_scope.md rule R7).

The block has no program counter and fetches nothing (10_state.md rule R21): the order of execution is
the order of `inputs` (log 5). -/

namespace Sys2Proof.Machine

/-- A command word is executed, or rejected as rule R84 of 30_encoding.md and rule R263 of
60_exceptions.md say. -/
def stepCommand (w : CommandWord) (s : State) : Host.Outcome State Fault Refusal :=
  match decodeCommand w with
  | .ok i => exec i s
  | .error _ => .next (rejectWord w s)

/-- A turn of the reader: the opcode byte at its position in INST, if there is one (log 9). -/
def stepReader (s : State) : Host.Outcome State Fault Refusal :=
  if s.reader.instPos < s.instLen then exec (decodeOpcode (s.readByte .inst s.reader.instPos)) s
  else .next s.readerAtEnd

/-- One step. With nothing presented the block waits (93_implementation_defined.md U38; log 5). -/
def step (s : State) : Host.Outcome State Fault Refusal :=
  match s.inputs with
  | [] => .next s
  | .command w :: rest => stepCommand w { s with inputs := rest }
  | .hardwareReset :: rest => .next { s with inputs := rest }.fullReset
  | .readOpcode :: rest => stepReader { s with inputs := rest }

/-- The state in which the next step runs the instruction of the table's bits `w`: a command word is put
first on the command port; an opcode byte, followed by zero bytes for the two sizes that may follow it,
is stored at the reader's position in INST and the reader is given the next turn (log 5, log 9). -/
def State.withFetchWord (s : State) (nbits w : Nat) : State :=
  if nbits ≤ 8 then
    { s.writeBytes .inst s.reader.instPos [byte w, 0, 0] with
      instLen := max s.instLen (s.reader.instPos + 3)
      inputs := .readOpcode :: s.inputs }
  else { s with inputs := .command (BitVec.ofNat 320 (w % 2 ^ nbits)) :: s.inputs }

end Sys2Proof.Machine
end

