-- ==== Sys2Proof/Safety.lean ====
section
/-! DEFINITION. What claims speak of: the responses of a command, the invariants of the block, the
candidates and sequences of the address cache, and the reading of a window from its start. -/

namespace Sys2Proof.Machine

/-! ### Responses -/

/-- The response of a completed command (30_encoding.md rules R81, R82). -/
def Response.okay (r0 r1 r2 r3 : Field) : Response := { status := .ok, r0, r1, r2, r3 }

/-- The statuses that are faults (60_exceptions.md rule R260). -/
def Status.isFault : Status → Bool
  | .ok => false
  | .endOfData => false
  | .error => true
  | .misuse => true
  | .illegal => true
  | .refused => false
  | .capacity => true

/-- A run goes on: the step answers a next state. -/
def goesOn (o : Host.Outcome State Fault Refusal) : Prop := ∃ t, o = .next t

/-- The commands that store in a memory space, or make its bytes unspecified (20_memory.md rule R60). -/
def storesBytes : Instr → Bool
  | .reset => true
  | .memWrite _ _ _ => true
  | .varintEnc32 _ => true
  | .varintEnc64 _ => true
  | .serStart _ => true
  | .serAdd _ _ => true
  | .serRun _ _ => true
  | .serCopy _ _ => true
  | .serOutput => true
  | _ => false

/-! ### Command words -/

/-- How many operand lanes the command of number `op` lists; they are the first ones (30_encoding.md rule
R83). -/
def listedLanes (op : Nat) : Nat :=
  if op = 0x55 then 4
  else if op ∈ [0x06, 0x22, 0x30, 0x54, 0x61] then 3
  else if op ∈ [0x04, 0x05, 0x21, 0x32, 0x33, 0x34, 0x40, 0x42, 0x43, 0x51, 0x62, 0x63, 0x64] then 2
  else if op ∈ [0x03, 0x10, 0x11, 0x12, 0x13, 0x31, 0x52, 0x53, 0x60, 0x65] then 1
  else 0

/-! ### Sparse arrays -/

/-- Every listed key is below `n`. -/
def Sparse.below {α : Type} (n : Nat) (a : Sparse α) : Bool := a.all fun e => decide (e.1 < n)

/-- No listed value is 0. -/
def Sparse.nonzero (a : Sparse Nat) : Bool := a.all fun e => e.2 != 0

/-! ### Invariants -/

/-- Every space lists its bytes with strictly rising addresses, all below its capacity (20_memory.md
rules R61, R65), and the code table lists its changed entries with strictly rising opcodes. -/
def State.MemoryInv (s : State) : Prop :=
  s.memoryWf = true ∧ (∀ sp, Sparse.below (Params.cap s.params sp) (s.mem sp) = true) ∧
    Sparse.rising s.ct = true

/-- The greatest number below `n` that satisfies `p`. -/
def newestBelow (p : Nat → Bool) : Nat → Option Nat
  | 0 => none
  | n + 1 => if p n then some n else newestBelow p n

/-- The newest of the blocks below `n` in bucket `i` (10_state.md rule R28). -/
def State.newestBlock (s : State) (i n : Nat) : Option Nat :=
  newestBelow (fun k => s.bucketAt (k * s.params.b) == i) n

/-- The block index, once it is constructed, holds exactly the blocks `0 .. BH_LAST_BLOCK` (10_state.md
rules R26, R28; 42_block_hash.md rules R150, R152): the head of a bucket is its newest block, and the block
after `k` on a chain is the newest one before `k` in its bucket. Nothing is asked of BH_HEAD and BH_NEXT
while BH_READY is 0 (10_state.md rule R37). -/
structure State.IndexInv (s : State) : Prop where
  block_pos : 1 ≤ s.params.b
  last_ge : -1 ≤ s.bhLastBlock
  last_inside : (s.bhLastBlock + 1) * s.params.b ≤ s.srcSize
  end_ge : -1 ≤ s.bhLastEnd
  end_le : s.bhLastEnd ≤ s.srcSize
  src_le : s.srcSize ≤ s.params.srcCap
  bias_le : s.srcSize + s.bhStartOffset ≤ max32
  none_before_init : s.bhReady = false → s.bhLastBlock = -1
  head_newest : s.bhReady = true → ∀ i, Sparse.lookup i s.bhHead = s.newestBlock i (s.bhLastBlock + 1).toNat
  next_newest : s.bhReady = true → ∀ k : Nat, (k : Int) ≤ s.bhLastBlock →
    Sparse.lookup k s.bhNext = s.newestBlock (s.bucketAt (k * s.params.b)) k
  next_none : s.bhReady = true → ∀ k : Nat, s.bhLastBlock < k → Sparse.lookup k s.bhNext = none

/-- The removal table is that of 41_rolling_hash.md rule R141 once RH_INIT has run. -/
def State.TableInv (s : State) : Prop := s.rhReady = true → s.rhRemove = removalTable s.params

/-- The address cache is within its sizes and its entries are addresses (10_state.md rule R32). -/
structure AddrCache.Inv (c : AddrCache) : Prop where
  sizes_le : c.nearSize + c.sameSize ≤ 254
  slot_lt : c.nextSlot < c.nearSize ∨ c.nextSlot = 0
  near_rising : Sparse.rising c.near = true
  near_below : Sparse.below c.nearSize c.near = true
  near_nonzero : Sparse.nonzero c.near = true
  near_le : ∀ i, readZero c.near i ≤ max32
  same_rising : Sparse.rising c.same = true
  same_below : Sparse.below (c.sameSize * 256) c.same = true
  same_nonzero : Sparse.nonzero c.same = true
  same_le : ∀ i, readZero c.same i ≤ max32

/-- The registers of the session domain are within the ranges of 10_state.md rule R36. -/
structure State.RangeInv (s : State) : Prop where
  tgt_size_le : s.tgtSize ≤ s.params.tgtCap
  tgt_lo_le : s.tgtLo ≤ s.params.tgtCap
  bm_src_ge : -1 ≤ s.bmSrc
  bm_src_le : s.bmSrc ≤ max32
  bm_tgt_le : s.bmTgt ≤ max32
  bm_size_le : s.bmSize ≤ max32
  in_cursor_le : s.inCursor ≤ s.params.inCap
  in_limit_le : s.inLimit ≤ s.params.inCap
  cache_inv : s.cache.Inv
  max_mode_le : s.ctMaxMode ≤ 255
  win_src_pos_le : s.winSrcPos ≤ max32
  win_len_le : s.winSrcSize + s.winTargetLen ≤ max32
  checksum_lt : s.winChecksum < 2 ^ 32
  last_ge : -1 ≤ s.lastOpcodeIndex
  last_lt : s.lastOpcodeIndex < s.instLen
  data_len_le : s.dataLen ≤ s.params.dataCap
  inst_len_le : s.instLen ≤ s.params.instCap
  addr_len_le : s.addrLen ≤ s.params.addrCap
  out_len_le : s.outLen ≤ s.params.outCap

/-- The error registers record a fault exactly while FAILED is set (10_state.md rule R25). -/
def State.ErrorInv (s : State) : Prop :=
  (s.failed = true → s.errCause ≠ none) ∧
    (s.failed = false → s.errCause = none ∧ s.errCmd = 0 ∧ s.errInfo = 0)

/-- The serializer's invariant, points (a), (b), (c) and (e) of 45_serializer.md rule R225, with the
meaning of CT_VALID (10_state.md rule R24) that they rest on. -/
structure State.SerInv (s : State) : Prop where
  /-- CT_VALID: the table has passed Validate(CT_MAXMODE) since it was last written. -/
  table_valid : s.ctValid = true → tableValid s.ctEntry s.ctMaxMode = true
  max_mode_le : s.ctMaxMode ≤ 255
  /-- (a); and no opcode may be rewritten in UNINIT either: SER_FINISH leaves READY (45_serializer.md rule
  R223), whose window is empty. -/
  idle_empty : s.serState ≠ .inWindow → s.winTargetLen = 0 ∧ s.lastOpcodeIndex = -1
  ready_empty : s.serState = .ready → s.dataLen = 0 ∧ s.instLen = 0 ∧ s.addrLen = 0 ∧
    s.cache = s.cache.clear
  window_nonempty : s.serState = .inWindow → 1 ≤ s.winTargetLen ∧ 1 ≤ s.instLen
  /-- (b) -/
  last_opcode : s.lastOpcodeIndex = -1 ∨
    (0 ≤ s.lastOpcodeIndex ∧ s.lastOpcodeIndex < s.instLen ∧
      ∃ h, (s.ctEntry (s.readByte .inst s.lastOpcodeIndex.toNat).toNat).single = some h ∧
        lookupFirst s.ctEntry h = (s.readByte .inst s.lastOpcodeIndex.toNat).toNat)
  /-- (c) -/
  win_len_le : s.winSrcSize + s.winTargetLen ≤ max32
  /-- (e) -/
  open_valid : s.serState ≠ .uninit → s.ctValid = true ∧ s.cache.lastMode ≤ s.ctMaxMode

/-! ### The address cache -/

/-- A candidate encoding of an address, its mode, value and wire length (43_address_cache.md rule
R172). -/
def AddrCache.Candidate (c : AddrCache) (addr here mode value len : Nat) : Prop :=
  (mode = 0 ∧ value = addr ∧ len = varintLength addr) ∨
  (mode = 1 ∧ value = here - addr ∧ len = varintLength (here - addr)) ∨
  (∃ i < c.nearSize, readZero c.near i ≤ addr ∧ mode = 2 + i ∧ value = addr - readZero c.near i ∧
    len = varintLength (addr - readZero c.near i)) ∨
  (0 < c.sameSize ∧ readZero c.same (addr % (c.sameSize * 256)) = addr ∧
    mode = 2 + c.nearSize + addr % (c.sameSize * 256) / 256 ∧
    value = addr % (c.sameSize * 256) % 256 ∧ len = 1)

/-- Encode a sequence of (address, here) pairs: the modes, the address fields one after another, and the
cache after them (43_address_cache.md rule R179). -/
def AddrCache.encodeAll (c : AddrCache) : List (Nat × Nat) → List Nat × List Byte × AddrCache
  | [] => ([], [], c)
  | (addr, here) :: rest =>
    let ch := c.choose addr here
    let (modes, bytes, d) := (c.update addr).encodeAll rest
    (ch.mode :: modes, c.addressField ch.mode ch.value ++ bytes, d)

/-- Decode a sequence of (here, mode) pairs over the bytes of `mem`: the addresses, the cursor and the
cache after them, or none where a field does not decode (43_address_cache.md rule R179). -/
def AddrCache.decodeAll (c : AddrCache) (mem : Nat → Byte) (cursor limit : Nat) :
    List (Nat × Nat) → Option (List Nat × Nat × AddrCache)
  | [] => some ([], cursor, c)
  | (here, mode) :: rest =>
    match c.decode mem cursor limit here mode with
    | .ok a q =>
      match (c.update a).decodeAll mem q limit rest with
      | some (addrs, p, d) => some (a :: addrs, p, d)
      | none => none
    | _ => none

/-! ### Matches -/

/-- The size of the match a block gives for the probe at `tpos` (42_block_hash.md rule R159). -/
def State.matchSize (s : State) (tpos k : Nat) : Nat :=
  s.params.b + s.extendLeft (k * s.params.b) tpos + s.extendRight (k * s.params.b) tpos

/-- Every block of the index with the probe's bytes, the newest first (42_block_hash.md rule R168). -/
def State.equalBlocks (s : State) (tpos : Nat) : List Nat :=
  (List.range (s.bhLastBlock + 1).toNat).reverse.filter (s.confirmed tpos)

/-- Block `k` has the probe's bytes (42_block_hash.md rule R155). -/
def State.SameBytes (s : State) (tpos k : Nat) : Prop :=
  ∀ i < s.params.b, s.readByte .src (k * s.params.b + i) = s.readByte .tgt (tpos + i)

/-! ### Accumulating an instruction -/

/-- Where the operand bytes of an instruction go: after the plan's bytes in INST in the interleaved format,
at the end of their own section in the standard one (45_serializer.md rules R214, R217 to R219). -/
def State.operandStart (s : State) (sp : Space) (p : Plan) : Nat :=
  if s.interleaved then s.instLen + p.bytes.length else s.len sp

/-- An address the accumulation of an instruction stores to. -/
def State.accumulates (s : State) (p : Plan) (sp : Space) (n : Nat) (sp' : Space) (a : Nat) : Prop :=
  (sp' = .inst ∧ p.rewrite.isSome = true ∧ a = s.lastOpcodeIndex.toNat) ∨
  (sp' = .inst ∧ s.instLen ≤ a ∧ a < s.instLen + p.bytes.length) ∨
  (sp' = s.sink sp ∧ s.operandStart sp p ≤ a ∧ a < s.operandStart sp p + n)

/-- `t` is `s` after an instruction producing `size` target bytes was accumulated with the plan `p` and the
operand bytes for the sink of `sp`, the cache apart (45_serializer.md rules R215, R217 to R219). -/
structure State.Accumulated (s t : State) (p : Plan) (sp : Space) (operand : List Byte) (size : Nat) :
    Prop where
  rewritten : ∀ b, p.rewrite = some b → t.readByte .inst s.lastOpcodeIndex.toNat = b
  planned : t.readBytes .inst s.instLen p.bytes.length = p.bytes
  operands : t.readBytes (s.sink sp) (s.operandStart sp p) operand.length = operand
  kept_bytes : ∀ sp' a, ¬ s.accumulates p sp operand.length sp' a → t.readByte sp' a = s.readByte sp' a
  inst_len : t.instLen = s.instLen + p.bytes.length + (if s.interleaved then operand.length else 0)
  data_len : t.dataLen = s.dataLen + (if sp = .data ∧ s.interleaved = false then operand.length else 0)
  addr_len : t.addrLen = s.addrLen + (if sp = .addr ∧ s.interleaved = false then operand.length else 0)
  last_opcode : t.lastOpcodeIndex = p.newLast
  target_len : t.winTargetLen = s.winTargetLen + size
  in_window : t.serState = .inWindow
  reader_start : t.reader = Reader.atStart s.cache.nearSize s.cache.sameSize
  kept : { t with inst := s.inst, data := s.data, addr := s.addr, instLen := s.instLen,
                  dataLen := s.dataLen, addrLen := s.addrLen, lastOpcodeIndex := s.lastOpcodeIndex,
                  winTargetLen := s.winTargetLen, serState := s.serState, reader := s.reader } =
         { s with cache := t.cache }

/-- The capacity check of 45_serializer.md rules R217 to R219 passes for the plan `p` and `n` operand bytes
for the sink of `sp`. -/
def State.fits (s : State) (p : Plan) (sp : Space) (n : Nat) : Prop :=
  if s.interleaved then s.instLen + p.bytes.length + n ≤ s.params.instCap
  else s.instLen + p.bytes.length ≤ s.params.instCap ∧ s.len sp + n ≤ Params.cap s.params sp

/-- The capacity check fails, and names the space of number `full`: INST (4) in the interleaved format, else
the lower of DATA (3), INST (4) and ADDR (5) that overflows (45_serializer.md rules R217 to R219;
90_conflicts.md C10). -/
def State.lacks (s : State) (p : Plan) (sp : Space) (n full : Nat) : Prop :=
  let instFull := s.params.instCap < s.instLen + p.bytes.length
  if s.interleaved then s.params.instCap < s.instLen + p.bytes.length + n ∧ full = 4
  else
    (sp = .data ∧ s.params.dataCap < s.dataLen + n ∧ full = 3) ∨
    (sp = .data ∧ s.dataLen + n ≤ s.params.dataCap ∧ instFull ∧ full = 4) ∨
    (sp = .addr ∧ instFull ∧ full = 4) ∨
    (sp = .addr ∧ ¬ instFull ∧ s.params.addrCap < s.addrLen + n ∧ full = 5)

/-- A table entry stands for the single instruction (inst, size, mode) (44_code_table.md rule R190). -/
def CtEntry.IsSingle (e : CtEntry) (h : Half) : Prop :=
  h.inst ≠ instNoop ∧ ((e.first = h ∧ e.inst2 = instNoop) ∨ (e.second = h ∧ e.inst1 = instNoop))

/-! ### Reading a window from its start -/

/-- One turn of a reader over the window of `s` (30_encoding.md rule R95). -/
def State.turn (s : State) (r : Reader) : Reader :=
  if r.instPos < s.instLen then
    { s with reader := r }.readerAfter (s.readByte .inst r.instPos)
  else r

/-- The reader after `n` turns from the start of the window. -/
def State.turns (s : State) : Nat → Reader
  | 0 => Reader.atStart s.cache.nearSize s.cache.sameSize
  | n + 1 => s.turn (s.turns n)

/-- The window of `s` decodes to `ds` and to nothing more, and the last opcode that may still be
rewritten is that of the last group (45_serializer.md rule R225 b, d). -/
def State.WindowReads (s : State) (ds : List Delta) : Prop :=
  ∃ n, (s.turns n).deltas = ds ∧ (s.turns n).instPos = s.instLen ∧
    (s.interleaved = false → (s.turns n).dataPos = s.dataLen ∧ (s.turns n).addrPos = s.addrLen) ∧
    (s.turns n).cache = s.cache ∧ (s.turns n).produced = s.winTargetLen ∧
    (s.lastOpcodeIndex = -1 ∨
      ∃ m, n = m + 1 ∧ ((s.turns m).instPos : Int) = s.lastOpcodeIndex)

end Sys2Proof.Machine
end

