-- ==== Sys2Proof/Certificates/Slice0/Obligations.lean ====
section
/-! DEFINITION. The statements for the provers, from the numbered rules of spec/. -/

open Sys2Proof Sys2Proof.Machine

/-! ### Encoding -/

/-- Words written out from the command map and the word format decode to the commands they stand for
(30_encoding.md rules R80, R83, R84), and opcode bytes to their rows (rule R95). One command of each unit;
the last lane of the word stands first in the literal. -/
def Obligations.SampleWordsDecode : Prop :=
  decodeCommand 0x0 = .ok .nop ∧
  decodeCommand 0x0000000000000000000000000000005A000000000000000700000000000000010000000000000006 =
    .ok (.memWrite 1 7 0x5A) ∧
  decodeCommand 0x00000000000000000000000000000000000000000000000000000000800000000000000000000013 =
    .ok (.varintEnc64 0x80000000) ∧
  decodeCommand 0x0000000000000000000000000000006500000000000000610000000000074B8A0000000000000022 =
    .ok (.rhUpdate 478090 0x61 0x65) ∧
  decodeCommand 0x0000000000000000000000000000000000000000000000020000000000074B8A0000000000000034 =
    .ok (.bhFindBest 478090 2) ∧
  decodeCommand 0x0000000000000000000000000000000000000000000000FF00000000000000A70000000000000042 =
    .ok (.acEncode 167 255) ∧
  decodeCommand 0x00000000000000010000000000000005000000000000000300000000000000030000000000000055 =
    .ok (.imSecond 3 3 5 1) ∧
  decodeCommand 0x00000000000000000000000000000000000000000000001C00000000000000000000000000000064 =
    .ok (.serCopy 0 28) ∧
  decodeCommand 0x07 = .error (.undefinedOpcode 7) ∧
  decodeCommand 0x100 = .error .reservedBits ∧
  decodeOpcode 0x13 = .ct13 ∧
  decodeOpcode 0xB3 = .ctB3

/-- Decoding an encoded instruction gives it back, every operand at every value its lane admits
(30_encoding.md rules R80, R83, R85, R95). -/
def Obligations.DecodeEncodeAgree : Prop :=
  ∀ i : Instr, decode (encode i) = .ok i

/-- Decoding is selected by `op` alone and reads the lanes as they stand: a word decodes exactly when its
reserved field is zero and its `op` is in the map; and the encoding of what it decodes to has the same `op`,
every lane the command lists as it stands in the word, and every other lane zero. So what a lane that is not
listed holds has no effect (30_encoding.md rules R83, R84, R85). -/
def Obligations.DecodedWordsAreTheirEncodings : Prop :=
  (∀ w : CommandWord, (∃ i, decodeCommand w = .ok i) ↔
    (w.toNat / 2 ^ 8 % 2 ^ 56 = 0 ∧
      ¬ ((0x07 ≤ w.toNat % 256 ∧ w.toNat % 256 ≤ 0x0F) ∨ (0x17 ≤ w.toNat % 256 ∧ w.toNat % 256 ≤ 0x1F) ∨
        (0x23 ≤ w.toNat % 256 ∧ w.toNat % 256 ≤ 0x2F) ∨ (0x36 ≤ w.toNat % 256 ∧ w.toNat % 256 ≤ 0x3F) ∨
        (0x44 ≤ w.toNat % 256 ∧ w.toNat % 256 ≤ 0x4F) ∨ (0x56 ≤ w.toNat % 256 ∧ w.toNat % 256 ≤ 0x5F) ∨
        0x69 ≤ w.toNat % 256))) ∧
  (∀ (w : CommandWord) (i : Instr), decodeCommand w = .ok i →
    ∃ v, encode i = .command v ∧ opBits v = opBits w ∧ rsvBits v = 0 ∧
      ∀ k, 1 ≤ k → k ≤ 4 → lane v k = if k ≤ listedLanes (opBits w).toNat then lane w k else 0) ∧
  (∀ w w' : CommandWord, opBits w = opBits w' → rsvBits w = rsvBits w' →
    (∀ k, 1 ≤ k → k ≤ listedLanes (opBits w).toNat → lane w k = lane w' k) →
    decodeCommand w = decodeCommand w')

/-! ### One step -/

/-- A step runs the decoded instruction: the command word presented is taken from the port and executed;
a turn of the reader executes the opcode byte at its position in INST. -/
def Obligations.StepRunsDecodedInstruction : Prop :=
  (∀ (s : State) (w : CommandWord) (rest : List Input) (i : Instr),
    s.inputs = .command w :: rest → decodeCommand w = .ok i → step s = exec i { s with inputs := rest }) ∧
  (∀ (s : State) (rest : List Input),
    s.inputs = .readOpcode :: rest → s.reader.instPos < s.instLen →
      step s = exec (decodeOpcode (s.readByte .inst s.reader.instPos)) { s with inputs := rest })

/-- Every command word answers exactly one response, at the end of those before it, and the next command
stands next; a response with a status other than OK has all result fields zero (00_scope.md rule R7;
30_encoding.md rules R81, R82). That a hardware reset and a turn of the reader answer none, and that the
responses given before a reset stay, is the model's choice (logs 6, 7, 8, 9). -/
def Obligations.OneResponsePerCommand : Prop :=
  ∀ (s t : State) (x : Input) (rest : List Input), s.inputs = x :: rest → step s = .next t →
    t.inputs = rest ∧
    match x with
    | .command _ => ∃ r : Response, t.responses = s.responses ++ [r] ∧
        (r.status ≠ .ok → r.r0 = 0 ∧ r.r1 = 0 ∧ r.r2 = 0 ∧ r.r3 = 0)
    | _ => t.responses = s.responses

/-! ### Faults -/

/-- A command that does not complete is precise. One that ends with a fault status changes nothing but the
error registers, and those only if nothing had failed; its response carries the status of the cause recorded.
END_OF_DATA is no fault and changes nothing, and only VARINT_PARSE32, VARINT_PARSE64, PARSE_BYTE and
AC_DECODE answer it (60_exceptions.md rules R260, R264, R267, R268, R270; 00_scope.md rule R12). -/
def Obligations.FaultsArePrecise : Prop :=
  ∀ (s t : State) (w : CommandWord) (rest : List Input) (r : Response),
    s.inputs = .command w :: rest → step s = .next t → t.responses = s.responses ++ [r] →
    (r.status.isFault = true →
      ∃ (c : Cause) (info : Field), r = Response.bare c.status ∧
        (s.failed = false →
          t = { s with inputs := rest, failed := true, errCause := some c, errCmd := opBits w,
                       errInfo := info, responses := s.responses ++ [r] }) ∧
        (s.failed = true → t = { s with inputs := rest, responses := s.responses ++ [r] })) ∧
    (r.status = .endOfData →
      t = { s with inputs := rest, responses := s.responses ++ [⟨.endOfData, 0, 0, 0, 0⟩] } ∧
      (opBits w = 0x14 ∨ opBits w = 0x15 ∨ opBits w = 0x16 ∨ opBits w = 0x43))

/-- A command word that is not executed. While FAILED is set, every word whose `op` is not RESET,
SESSION_RESET, RDREG or MEM_READ ends REFUSED and changes nothing at all, whatever else is wrong with it; a
word with one of those four is executed if its reserved field is zero. Otherwise a word that spells no
command raises ILLEGAL(ILLEGAL_COMMAND, CW[63:0]) (30_encoding.md rule R84; 60_exceptions.md rules R261, R263,
R264, R265). -/
def Obligations.RefusedAndIllegalWords : Prop :=
  ∀ (s : State) (w : CommandWord) (rest : List Input), s.inputs = .command w :: rest →
    let allowed := opBits w = 0x01 ∨ opBits w = 0x02 ∨ opBits w = 0x03 ∨ opBits w = 0x05
    (s.failed = true → ¬ allowed →
      step s = .next { s with inputs := rest, responses := s.responses ++ [⟨.refused, 0, 0, 0, 0⟩] }) ∧
    (s.failed = true → allowed → rsvBits w ≠ 0 →
      step s = .next { s with inputs := rest, responses := s.responses ++ [⟨.illegal, 0, 0, 0, 0⟩] }) ∧
    (s.failed = true → allowed → rsvBits w = 0 →
      ∃ t r, step s = .next t ∧ t.responses = s.responses ++ [r] ∧ r.status ≠ .refused ∧
        r.status ≠ .illegal) ∧
    (s.failed = false → (¬ ∃ i, decodeCommand w = .ok i) →
      step s = .next { s with inputs := rest, failed := true, errCause := some .illegalCommand,
                              errCmd := BitVec.ofNat 8 w.toNat, errInfo := BitVec.ofNat 64 w.toNat,
                              responses := s.responses ++ [⟨.illegal, 0, 0, 0, 0⟩] })

/-- The failed state is left only by RESET, SESSION_RESET or the hardware reset, and until then the error
registers keep the record of the first fault (60_exceptions.md rule R266; 10_state.md rule R25). -/
def Obligations.OnlyResetsLeaveTheFailedState : Prop :=
  ∀ s t : State, s.failed = true → step s = .next t →
    (t.failed = true ∧ t.errCause = s.errCause ∧ t.errCmd = s.errCmd ∧ t.errInfo = s.errInfo) ∨
    (∃ rest, s.inputs = .hardwareReset :: rest) ∨
    (∃ w rest, s.inputs = .command w :: rest ∧ rsvBits w = 0 ∧ (opBits w = 0x01 ∨ opBits w = 0x02))

/-! ### Reset -/

/-- What reset leaves: every register of the map at its reset value, CT the default table and the arrays of
the cache all zero, for every choice of the parameters (70_reset_and_hazards.md rule R291; 10_state.md
rules R36, R37). The parameters of `State.reset` are the model's choice (log 1). -/
def Obligations.ResetValues : Prop :=
  State.reset = State.resetWith Config.resetParams ∧
  ∀ p : Params,
    (∀ e ∈ [(0x00, field 0x08), (0x01, 0), (0x02, 0), (0x03, 0), (0x04, 0), (0x05, 0),
        (0x06, sfield (-1)), (0x07, sfield (-1)), (0x08, 0), (0x09, 0), (0x0A, sfield (-1)), (0x0B, 0),
        (0x0C, 0), (0x0D, 0), (0x0E, 0), (0x10, 4), (0x11, 3), (0x12, 0), (0x14, 8), (0x18, 0),
        (0x19, 0), (0x1A, 0), (0x1B, 0), (0x1C, 0), (0x1D, 0), (0x1E, sfield (-1)), (0x1F, 0), (0x20, 0),
        (0x21, 0), (0x22, 0), (0x30, field p.b), (0x31, field p.w), (0x32, field p.m), (0x33, field p.t),
        (0x34, field p.maxMatches)],
      (State.resetWith p).readReg e.1 = some e.2) ∧
    (∀ i, readZero (State.resetWith p).cache.near i = 0 ∧ readZero (State.resetWith p).cache.same i = 0) ∧
    (∀ op, (State.resetWith p).ctEntry op = defaultEntry op) ∧
    (State.resetWith p).params = p

/-- RESET and the hardware reset put the block in its reset state, in the failed state as well; the command
answers OK and the reset input answers nothing (46_system.md rule R241; 70_reset_and_hazards.md rules R290,
R291). Every byte becomes unspecified: the free contents of a new number of reset (logs 2, 4). The model's
choice: the values of RH_REMOVE, BH_HEAD and BH_NEXT, which the rules leave unspecified (log 3), the lists of
inputs and responses (log 7), the reset input as an input without a response (log 8), and the reader at its
start (log 10). -/
def Obligations.ResetCompletes : Prop :=
  ∀ s : State, ∃ t : State,
    exec .reset s = .next { t with responses := s.responses ++ [Response.okay 0 0 0 0] } ∧
    (∀ rest, step { s with inputs := .hardwareReset :: rest } = .next { t with inputs := rest }) ∧
    t.inputs = s.inputs ∧ t.responses = s.responses ∧ t.epoch = s.epoch + 1 ∧
    { t with epoch := 0, inputs := [], responses := [] } = State.resetWith s.params

/-- SESSION_RESET puts the session domain in its reset state and keeps the dictionary domain and every byte
of memory, in the failed state as well (46_system.md rule R242; 70_reset_and_hazards.md rule R292;
10_state.md rule R22). -/
def Obligations.SessionResetCompletes : Prop :=
  ∀ s : State, ∃ t : State, exec .sessionReset s = .next t ∧
    t.responses = s.responses ++ [Response.okay 0 0 0 0] ∧
    (∀ n, n ≠ 0x00 → n ≠ 0x04 → n ≠ 0x05 → n ≠ 0x06 → n ≠ 0x07 →
      t.readReg n = (State.resetWith s.params).readReg n) ∧
    t.failed = false ∧ t.ctValid = true ∧ t.serState = .uninit ∧ t.winHasChecksum = false ∧
    t.cache = AddrCache.cleared 4 3 ∧ (∀ op, t.ctEntry op = defaultEntry op) ∧
    t.rhReady = s.rhReady ∧ t.bhReady = s.bhReady ∧ t.rhRemove = s.rhRemove ∧ t.srcSize = s.srcSize ∧
    t.bhStartOffset = s.bhStartOffset ∧ t.bhHead = s.bhHead ∧ t.bhNext = s.bhNext ∧
    t.bhLastBlock = s.bhLastBlock ∧ t.bhLastEnd = s.bhLastEnd ∧ t.params = s.params ∧
    t.inputs = s.inputs ∧ ∀ sp a, t.readByte sp a = s.readByte sp a

/-! ### System commands -/

/-- RDREG answers the value of each register of the map and changes nothing, in the failed state as well;
another number is BAD_OPERAND (46_system.md rule R243; 10_state.md rules R23, R24, R36). -/
def Obligations.RdregCompletes : Prop :=
  ∀ (s : State) (a0 : Field),
    (∀ e ∈ [(0x00, field (s.failed.toNat + 2 * s.rhReady.toNat + 4 * s.bhReady.toNat +
            8 * s.ctValid.toNat + 16 * s.serState.code + 64 * s.winHasChecksum.toNat)),
          (0x01, match s.errCause with | none => 0 | some c => field c.code),
          (0x02, s.errCmd.setWidth 64), (0x03, s.errInfo), (0x04, field s.srcSize),
          (0x05, field s.bhStartOffset), (0x06, sfield s.bhLastBlock), (0x07, sfield s.bhLastEnd),
          (0x08, field s.tgtSize), (0x09, field s.tgtLo), (0x0A, sfield s.bmSrc), (0x0B, field s.bmTgt),
          (0x0C, field s.bmSize), (0x0D, field s.inCursor), (0x0E, field s.inLimit),
          (0x10, field s.cache.nearSize), (0x11, field s.cache.sameSize), (0x12, field s.cache.nextSlot),
          (0x14, field s.ctMaxMode), (0x18, field (s.interleaved.toNat + 2 * s.checksumOn.toNat)),
          (0x19, field s.winSrcMode.code), (0x1A, field s.winSrcSize), (0x1B, field s.winSrcPos),
          (0x1C, field s.winTargetLen), (0x1D, field s.winChecksum), (0x1E, sfield s.lastOpcodeIndex),
          (0x1F, field s.dataLen), (0x20, field s.instLen), (0x21, field s.addrLen),
          (0x22, field s.outLen), (0x30, field s.params.b), (0x31, field s.params.w),
          (0x32, field s.params.m), (0x33, field s.params.t), (0x34, field s.params.maxMatches)],
      a0.toNat = e.1 → exec (.rdreg a0) s = .next (s.respond (Response.okay e.2 0 0 0))) ∧
    (a0.toNat ∉ [0x00, 0x01, 0x02, 0x03, 0x04, 0x05, 0x06, 0x07, 0x08, 0x09, 0x0A, 0x0B, 0x0C, 0x0D, 0x0E,
        0x10, 0x11, 0x12, 0x14, 0x18, 0x19, 0x1A, 0x1B, 0x1C, 0x1D, 0x1E, 0x1F, 0x20, 0x21, 0x22, 0x30,
        0x31, 0x32, 0x33, 0x34] →
      exec (.rdreg a0) s = .next (s.takeFault 0x03 .badOperand a0))

/-- WRREG writes the register named, and no other, with a value within its range; a number that is
read-only or not in the map, and a value outside the range, are BAD_OPERAND (46_system.md rule R244;
10_state.md rules R29, R30, R31, R36). -/
def Obligations.WrregCompletes : Prop :=
  ∀ (s : State) (a0 a1 : Field), s.failed = false →
    let v := s64 a1
    let tgt := decide (0 ≤ v) && decide (v ≤ s.params.tgtCap)
    let word := decide (0 ≤ v) && decide (v ≤ max32)
    let inp := decide (0 ≤ v) && decide (v ≤ s.params.inCap)
    let write (ok : Bool) (t : State) : Prop :=
      exec (.wrreg a0 a1) s =
        .next (if ok then t.respond (Response.okay 0 0 0 0) else s.takeFault 0x04 .badOperand a1)
    (a0 = 0x08 → write tgt { s with tgtSize := v.toNat }) ∧
    (a0 = 0x09 → write tgt { s with tgtLo := v.toNat }) ∧
    (a0 = 0x0A → write (decide (-1 ≤ v) && decide (v ≤ max32)) { s with bmSrc := v }) ∧
    (a0 = 0x0B → write word { s with bmTgt := v.toNat }) ∧
    (a0 = 0x0C → write word { s with bmSize := v.toNat }) ∧
    (a0 = 0x0D → write inp { s with inCursor := v.toNat }) ∧
    (a0 = 0x0E → write inp { s with inLimit := v.toNat }) ∧
    (a0.toNat < 0x08 ∨ 0x0E < a0.toNat →
      exec (.wrreg a0 a1) s = .next (s.takeFault 0x04 .badOperand a0))

/-- MEM_READ answers the byte at an address of a space below its bound (the capacity of SRC, TGT and IN, the
length register of DATA, INST, ADDR and OUT) and changes nothing, in the failed state as well; otherwise
BAD_OPERAND (46_system.md rule R245; 20_memory.md rules R60, R64, R65, R67). -/
def Obligations.MemReadCompletes : Prop :=
  ∀ (s : State) (a0 a1 : Field),
    (∀ e ∈ [(0, Space.src, s.params.srcCap), (1, .tgt, s.params.tgtCap), (2, .inp, s.params.inCap),
          (3, .data, s.dataLen), (4, .inst, s.instLen), (5, .addr, s.addrLen), (6, .out, s.outLen)],
      a0.toNat = e.1 →
        (a1.toNat < e.2.2 → exec (.memRead a0 a1) s =
          .next (s.respond (Response.okay ((s.readByte e.2.1 a1.toNat).setWidth 64) 0 0 0))) ∧
        (e.2.2 ≤ a1.toNat → exec (.memRead a0 a1) s = .next (s.takeFault 0x05 .badOperand a1))) ∧
    (6 < a0.toNat → exec (.memRead a0 a1) s = .next (s.takeFault 0x05 .badOperand a0))

/-- MEM_WRITE stores one byte at an address of SRC, TGT or IN below its capacity and changes nothing else:
the byte written reads back, every other byte of every space reads as before. Its faults, in order, are
BAD_OPERAND for the space, the address and the byte, and SRC_IMMUTABLE for a byte of an indexed block
(46_system.md rule R246; 20_memory.md rules R67, R68, R70). -/
def Obligations.MemWriteCompletes : Prop :=
  ∀ (s : State) (a0 a1 a2 : Field), s.failed = false →
    (2 < a0.toNat → exec (.memWrite a0 a1 a2) s = .next (s.takeFault 0x06 .badOperand a0)) ∧
    (∀ e ∈ [(0, Space.src, s.params.srcCap), (1, .tgt, s.params.tgtCap), (2, .inp, s.params.inCap)],
      a0.toNat = e.1 →
        (e.2.2 ≤ a1.toNat → exec (.memWrite a0 a1 a2) s = .next (s.takeFault 0x06 .badOperand a1)) ∧
        (a1.toNat < e.2.2 → 255 < a2.toNat →
          exec (.memWrite a0 a1 a2) s = .next (s.takeFault 0x06 .badOperand a2)) ∧
        (a1.toNat < e.2.2 → a2.toNat ≤ 255 →
          (e.2.1 = .src ∧ s.bhReady = true ∧ (a1.toNat : Int) < (s.bhLastBlock + 1) * s.params.b →
            exec (.memWrite a0 a1 a2) s = .next (s.takeFault 0x06 .srcImmutable a1)) ∧
          (¬ (e.2.1 = .src ∧ s.bhReady = true ∧ (a1.toNat : Int) < (s.bhLastBlock + 1) * s.params.b) →
            ∃ t : State, exec (.memWrite a0 a1 a2) s = .next (t.respond (Response.okay 0 0 0 0)) ∧
              t.readByte e.2.1 a1.toNat = BitVec.ofNat 8 a2.toNat ∧
              (∀ sp a, sp ≠ e.2.1 ∨ a ≠ a1.toNat → t.readByte sp a = s.readByte sp a) ∧
              { t with src := s.src, tgt := s.tgt, inp := s.inp } = s)))

/-- The commands that only set registers. NOP, BM_CLEAR and OUT_CLEAR in every state; AC_CONFIG, AC_RESET and
CT_DEFAULT while no serializer session is open, BAD_STATE otherwise; AC_CONFIG with a negative size or a sum
above 254 is BAD_CACHE_SIZES. Each changes nothing else (46_system.md rule R240; 42_block_hash.md rule R163;
45_serializer.md rule R224; 43_address_cache.md rules R174, R175; 44_code_table.md rule R194). -/
def Obligations.PlainCommandsComplete : Prop :=
  ∀ (s : State) (a0 a1 : Field), s.failed = false →
    exec .nop s = .next (s.respond (Response.okay 0 0 0 0)) ∧
    exec .bmClear s =
      .next ({ s with bmSrc := -1, bmTgt := 0, bmSize := 0 }.respond (Response.okay 0 0 0 0)) ∧
    exec .outClear s = .next ({ s with outLen := 0 }.respond (Response.okay 0 0 0 0)) ∧
    (s.serState = .uninit →
      (s64 a0 < 0 ∨ s64 a1 < 0 ∨ 254 < s64 a0 + s64 a1 →
        exec (.acConfig a0 a1) s = .next (s.takeFault 0x40 .badCacheSizes a0)) ∧
      (0 ≤ s64 a0 → 0 ≤ s64 a1 → s64 a0 + s64 a1 ≤ 254 →
        exec (.acConfig a0 a1) s =
          .next ({ s with cache := ⟨a0.toNat, a1.toNat, 0, [], []⟩ }.respond
            (Response.okay 0 0 0 0))) ∧
      exec .acReset s = .next ({ s with cache := ⟨s.cache.nearSize, s.cache.sameSize, 0, [], []⟩ }.respond
        (Response.okay 0 0 0 0)) ∧
      ∃ t : State, exec .ctDefault s = .next (t.respond (Response.okay 0 0 0 0)) ∧
        (∀ op, t.ctEntry op = defaultEntry op) ∧ t.ctValid = true ∧ t.ctMaxMode = 8 ∧
        { t with ct := s.ct, ctValid := s.ctValid, ctMaxMode := s.ctMaxMode } = s) ∧
    (s.serState ≠ .uninit →
      exec (.acConfig a0 a1) s = .next (s.takeFault 0x40 .badState (field s.serState.code)) ∧
      exec .acReset s = .next (s.takeFault 0x41 .badState (field s.serState.code)) ∧
      exec .ctDefault s = .next (s.takeFault 0x50 .badState (field s.serState.code)))

/-! ### The varint unit -/

/-- `Length(v)` is the number of base-128 digits of `v`, at least 1, and `Encode(v)` is those digits, the
most significant first, each but the last with bit 7 set (40_varint.md rules R122, R123; 30_encoding.md
rule R90). -/
def Obligations.VarintDigits : Prop :=
  ∀ v : Nat,
    1 ≤ varintLength v ∧ v < 128 ^ varintLength v ∧
    (2 ≤ varintLength v → 128 ^ (varintLength v - 1) ≤ v) ∧
    (varintEncode v).length = varintLength v ∧
    (∀ i < varintLength v, (varintEncode v)[i]? =
      some (BitVec.ofNat 8 (((v >>> (7 * (varintLength v - 1 - i))) &&& 0x7F) |||
        (if i < varintLength v - 1 then 0x80 else 0)))) ∧
    (varintEncode v).foldl (fun acc d => acc * 128 + d.toNat % 128) 0 = v

/-- The length and encode commands: for a value in the width's range the length, and for the encode commands
the digits appended to OUT, which changes no other byte and only OUT_LEN; NEGATIVE_VALUE, BAD_OPERAND and
CAPACITY in that order otherwise (40_varint.md rules R125, R126, R127, R128). -/
def Obligations.VarintLengthAndEncodeComplete : Prop :=
  ∀ (s : State) (a0 : Field), s.failed = false →
    (∀ e ∈ [(Instr.varintLen32 a0, (0x10 : Byte), max32), (.varintLen64 a0, 0x11, max64)],
      (0 ≤ s64 a0 → s64 a0 ≤ e.2.2 → exec e.1 s =
        .next (s.respond (Response.okay (field (varintLength (s64 a0).toNat)) 0 0 0))) ∧
      (s64 a0 < 0 → exec e.1 s = .next (s.takeFault e.2.1 .negativeValue a0)) ∧
      ((e.2.2 : Int) < s64 a0 → exec e.1 s = .next (s.takeFault e.2.1 .badOperand a0))) ∧
    (∀ e ∈ [(Instr.varintEnc32 a0, (0x12 : Byte), max32), (.varintEnc64 a0, 0x13, max64)],
      (0 ≤ s64 a0 → s64 a0 ≤ e.2.2 →
        s.outLen + varintLength (s64 a0).toNat ≤ s.params.outCap →
        ∃ t : State, exec e.1 s =
            .next (t.respond (Response.okay (field (varintLength (s64 a0).toNat)) 0 0 0)) ∧
          t.outLen = s.outLen + varintLength (s64 a0).toNat ∧
          t.readBytes .out s.outLen (varintLength (s64 a0).toNat) = varintEncode (s64 a0).toNat ∧
          (∀ sp a, sp ≠ .out ∨ a < s.outLen ∨ s.outLen + varintLength (s64 a0).toNat ≤ a →
            t.readByte sp a = s.readByte sp a) ∧
          { t with out := s.out, outLen := s.outLen } = s) ∧
      (0 ≤ s64 a0 → s64 a0 ≤ e.2.2 →
        s.params.outCap < s.outLen + varintLength (s64 a0).toNat →
        exec e.1 s = .next (s.takeFault e.2.1 .capacity 6)) ∧
      (s64 a0 < 0 → exec e.1 s = .next (s.takeFault e.2.1 .negativeValue a0)) ∧
      ((e.2.2 : Int) < s64 a0 → exec e.1 s = .next (s.takeFault e.2.1 .badOperand a0)))

/-- Parsing what was encoded gives the value back and moves the cursor past it; every proper prefix of an
encoding is END_OF_DATA; no value out of the width's range is ever returned; the result depends only on the
bytes before the limit, at most the width's digits, and on how many there are; END_OF_DATA is answered only
where more bytes can complete the varint, and an answer other than END_OF_DATA does not change when more
bytes arrive (40_varint.md rule R132; the parser is rule R124's). -/
def Obligations.VarintRoundTrip : Prop :=
  ∀ (width : VarWidth) (mem : Nat → Byte) (cursor limit : Nat),
    (∀ v, v ≤ width.max → (∀ i < varintLength v, (varintEncode v)[i]? = some (mem (cursor + i))) →
      varintLength v = (varintEncode v).length ∧
      (cursor + varintLength v ≤ limit →
        varintParse width mem cursor limit = .ok v (cursor + varintLength v)) ∧
      (limit < cursor + varintLength v → varintParse width mem cursor limit = .endOfData)) ∧
    (∀ v q, varintParse width mem cursor limit = .ok v q →
      v ≤ width.max ∧ cursor < q ∧ q ≤ limit ∧ q ≤ cursor + width.maxDigits) ∧
    (∀ (mem' : Nat → Byte) (cursor' limit' : Nat), limit' - cursor' = limit - cursor →
      (∀ i < min (limit - cursor) width.maxDigits, mem' (cursor' + i) = mem (cursor + i)) →
      varintParse width mem' cursor' limit' =
        match varintParse width mem cursor limit with
        | .ok v q => .ok v (cursor' + (q - cursor))
        | .endOfData => .endOfData
        | .error => .error) ∧
    (varintParse width mem cursor limit = .endOfData →
      ∃ (mem' : Nat → Byte) (limit' v q : Nat), limit ≤ limit' ∧
        (∀ a, cursor ≤ a → a < limit → mem' a = mem a) ∧
        varintParse width mem' cursor limit' = .ok v q) ∧
    (∀ (mem' : Nat → Byte) (limit' : Nat), limit ≤ limit' →
      (∀ a, cursor ≤ a → a < limit → mem' a = mem a) →
      varintParse width mem cursor limit ≠ .endOfData →
      varintParse width mem' cursor limit' = varintParse width mem cursor limit)

/-- The parse commands answer the value at the cursor and the new cursor, and write only IN_CURSOR;
END_OF_DATA changes nothing, a malformed varint is VARINT_OVERFLOW with the cursor (40_varint.md rules R129,
R130, R131). -/
def Obligations.ParseCommandsComplete : Prop :=
  ∀ s : State, s.failed = false →
    (∀ e ∈ [(Instr.varintParse32, (0x14 : Byte), VarWidth.w32), (.varintParse64, 0x15, .w64)],
      (∀ v q, varintParse e.2.2 (s.readByte .inp) s.inCursor s.inLimit = .ok v q →
        exec e.1 s =
          .next ({ s with inCursor := q }.respond (Response.okay (field v) (field q) 0 0))) ∧
      (varintParse e.2.2 (s.readByte .inp) s.inCursor s.inLimit = .endOfData →
        exec e.1 s = .next (s.respond (Response.bare .endOfData))) ∧
      (varintParse e.2.2 (s.readByte .inp) s.inCursor s.inLimit = .error →
        exec e.1 s = .next (s.takeFault e.2.1 .varintOverflow (field s.inCursor)))) ∧
    (s.inCursor < s.inLimit →
      exec .parseByte s = .next ({ s with inCursor := s.inCursor + 1 }.respond
        (Response.okay ((s.readByte .inp s.inCursor).setWidth 64) (field (s.inCursor + 1)) 0 0))) ∧
    (s.inLimit ≤ s.inCursor → exec .parseByte s = .next (s.respond (Response.bare .endOfData)))

/-! ### The rolling hash -/

/-- `Hash` is the polynomial in `M` whose coefficients are the bytes, the most significant first, modulo
`2^W`. RH_INIT sets the removal table and RH_READY and nothing else; entry `b` of the table is below `2^W` and
cancels the contribution of a leading byte `b` (41_rolling_hash.md rules R140, R141, R144). -/
def Obligations.HashAndRemovalTable : Prop :=
  (∀ (p : Params) (bytes : List Byte),
    hashOf p bytes =
      (∑ i ∈ Finset.range bytes.length,
        (bytes.getD i 0).toNat * p.m ^ (bytes.length - 1 - i)) % 2 ^ p.w) ∧
  (∀ s : State, s.failed = false → ∃ table : List Nat,
    exec .rhInit s =
      .next ({ s with rhRemove := table, rhReady := true }.respond (Response.okay 0 0 0 0)) ∧
    table.length = 256 ∧
    ∀ b < 256, table.getD b 0 < 2 ^ s.params.w ∧
      (table.getD b 0 + b * s.params.m ^ (s.params.b - 1)) % 2 ^ s.params.w = 0)

/-- RH_HASH answers the hash of the `B` bytes at an offset of SRC or TGT whose window lies inside SRC_SIZE or
TGT_SIZE, and RH_UPDATE the hash moved by one byte; neither changes anything; NOT_INITIALIZED before RH_INIT
and BAD_OPERAND for the first operand out of its range (41_rolling_hash.md rules R142, R145, R146). -/
def Obligations.HashCommandsComplete : Prop :=
  ∀ (s : State) (a0 a1 a2 : Field), s.failed = false →
    (s.rhReady = false → exec (.rhHash a0 a1) s = .next (s.takeFault 0x21 .notInitialized 0) ∧
      exec (.rhUpdate a0 a1 a2) s = .next (s.takeFault 0x22 .notInitialized 0)) ∧
    (s.rhReady = true →
      (1 < a0.toNat → exec (.rhHash a0 a1) s = .next (s.takeFault 0x21 .badOperand a0)) ∧
      (∀ e ∈ [(0, Space.src, s.srcSize), (1, .tgt, s.tgtSize)], a0.toNat = e.1 →
        (a1.toNat ≤ max32 → a1.toNat + s.params.b ≤ e.2.2 → exec (.rhHash a0 a1) s =
          .next (s.respond (Response.okay
            (field (hashOf s.params (s.readBytes e.2.1 a1.toNat s.params.b))) 0 0 0))) ∧
        (max32 < a1.toNat ∨ e.2.2 < a1.toNat + s.params.b →
          exec (.rhHash a0 a1) s = .next (s.takeFault 0x21 .badOperand a1))) ∧
      (2 ^ s.params.w ≤ a0.toNat →
        exec (.rhUpdate a0 a1 a2) s = .next (s.takeFault 0x22 .badOperand a0)) ∧
      (a0.toNat < 2 ^ s.params.w → 255 < a1.toNat →
        exec (.rhUpdate a0 a1 a2) s = .next (s.takeFault 0x22 .badOperand a1)) ∧
      (a0.toNat < 2 ^ s.params.w → a1.toNat ≤ 255 → 255 < a2.toNat →
        exec (.rhUpdate a0 a1 a2) s = .next (s.takeFault 0x22 .badOperand a2)) ∧
      (a0.toNat < 2 ^ s.params.w → a1.toNat ≤ 255 → a2.toNat ≤ 255 →
        exec (.rhUpdate a0 a1 a2) s = .next (s.respond (Response.okay
          (field (((a0.toNat + s.rhRemove.getD a1.toNat 0) % 2 ^ s.params.w * s.params.m + a2.toNat) %
            2 ^ s.params.w)) 0 0 0))))

/-- The rolling law: updating the hash of a window with the byte that leaves and the byte that enters gives
the hash of the window one byte on, for every `B >= 1` and every `W` and `M` (41_rolling_hash.md rules R143,
R147). On the commands: RH_UPDATE of what RH_HASH answers for an offset answers what RH_HASH answers for the
next one, once RH_INIT has filled the table. -/
def Obligations.RollingLaw : Prop :=
  (∀ (p : Params) (x y : Byte) (mid : List Byte), mid.length + 1 = p.b →
    hashUpdate p (hashOf p (x :: mid)) ((removalTable p).getD x.toNat 0) y.toNat =
      hashOf p (mid ++ [y])) ∧
  (∀ (s : State) (o : Nat), s.failed = false → s.rhReady = true → s.TableInv → 1 ≤ s.params.b →
    s.params.w ≤ 63 → o + 1 ≤ max32 →
    ∀ e ∈ [(0, Space.src, s.srcSize), (1, .tgt, s.tgtSize)], o + 1 + s.params.b ≤ e.2.2 →
    ∃ h h' : Field,
      exec (.rhHash (field e.1) (field o)) s = .next (s.respond (Response.okay h 0 0 0)) ∧
      exec (.rhHash (field e.1) (field (o + 1))) s = .next (s.respond (Response.okay h' 0 0 0)) ∧
      exec (.rhUpdate h ((s.readByte e.2.1 o).setWidth 64)
        ((s.readByte e.2.1 (o + s.params.b)).setWidth 64)) s =
        .next (s.respond (Response.okay h' 0 0 0)))

/-! ### The block-hash matcher -/

/-- BH_INIT constructs a new index over the first `a0` bytes of SRC: empty, or with every whole block in it;
it writes the index and its registers and nothing else. Its faults, in order: NOT_INITIALIZED, BAD_OPERAND
for the size, the offset and the third operand (42_block_hash.md rules R150, R153). -/
def Obligations.BhInitCompletes : Prop :=
  ∀ (s : State) (a0 a1 a2 : Field), s.failed = false → 1 ≤ s.params.b →
    (s.rhReady = false → exec (.bhInit a0 a1 a2) s = .next (s.takeFault 0x30 .notInitialized 0)) ∧
    (s.rhReady = true →
      (s.params.srcCap < a0.toNat →
        exec (.bhInit a0 a1 a2) s = .next (s.takeFault 0x30 .badOperand a0)) ∧
      (a0.toNat ≤ s.params.srcCap → max32 < a1.toNat ∨ max32 < a0.toNat + a1.toNat →
        exec (.bhInit a0 a1 a2) s = .next (s.takeFault 0x30 .badOperand a1)) ∧
      (a0.toNat ≤ s.params.srcCap → a0.toNat + a1.toNat ≤ max32 → 1 < a2.toNat →
        exec (.bhInit a0 a1 a2) s = .next (s.takeFault 0x30 .badOperand a2)) ∧
      (a0.toNat ≤ s.params.srcCap → a0.toNat + a1.toNat ≤ max32 → a2.toNat ≤ 1 →
        ∃ t : State,
          exec (.bhInit a0 a1 a2) s =
            .next (t.respond (Response.okay (sfield (t.bhLastBlock + 1)) 0 0 0)) ∧
          t.bhLastBlock = (if a2 = 1 then ((a0.toNat / s.params.b : Nat) : Int) else 0) - 1 ∧
          t.bhLastEnd = (if a2 = 1 then (a0.toNat : Int) else -1) ∧
          t.srcSize = a0.toNat ∧ t.bhStartOffset = a1.toNat ∧ t.bhReady = true ∧ t.IndexInv ∧
          { t with srcSize := s.srcSize, bhStartOffset := s.bhStartOffset, bhHead := s.bhHead,
                   bhNext := s.bhNext, bhLastBlock := s.bhLastBlock, bhLastEnd := s.bhLastEnd,
                   bhReady := s.bhReady } = s))

/-- BH_ADD_THROUGH adds every block not yet in the index that starts below `end` and lies wholly inside
SRC_SIZE, records `end`, and writes nothing else. RANGE_REGRESSION for an `end` not above the last one, then
BAD_OPERAND above SRC_SIZE (42_block_hash.md rules R151, R154). -/
def Obligations.BhAddThroughCompletes : Prop :=
  ∀ (s : State) (a0 : Field), s.failed = false →
    (s.bhReady = false → exec (.bhAddThrough a0) s = .next (s.takeFault 0x31 .notInitialized 0)) ∧
    (s.bhReady = true →
      (s64 a0 ≤ s.bhLastEnd → exec (.bhAddThrough a0) s = .next (s.takeFault 0x31 .rangeRegression a0)) ∧
      (s.bhLastEnd < s64 a0 → (s.srcSize : Int) < s64 a0 →
        exec (.bhAddThrough a0) s = .next (s.takeFault 0x31 .badOperand a0)) ∧
      (s.bhLastEnd < s64 a0 → s64 a0 ≤ s.srcSize → s.IndexInv →
        ∃ t : State,
          exec (.bhAddThrough a0) s =
            .next (t.respond (Response.okay (sfield (t.bhLastBlock + 1)) 0 0 0)) ∧
          t.bhLastEnd = s64 a0 ∧ t.IndexInv ∧ s.bhLastBlock ≤ t.bhLastBlock ∧
          (∀ k : Nat, s.bhLastBlock < k → ((k : Int) ≤ t.bhLastBlock ↔
            ((k * s.params.b : Nat) : Int) < s64 a0 ∧ (k + 1) * s.params.b ≤ s.srcSize)) ∧
          { t with bhHead := s.bhHead, bhNext := s.bhNext, bhLastBlock := s.bhLastBlock,
                   bhLastEnd := s.bhLastEnd } = s))

/-- The walk commands change nothing and never return a block whose bytes differ from the probe's; given
the probe's hash, BH_FIRST_MATCH returns the newest block of the index with the probe's bytes, and
BH_NEXT_MATCH, given such a block, the newest one before it, or -1 where there is none: whatever `T`, `W`
and `M` are (42_block_hash.md rules R152, R155, R156, R157, R168). -/
def Obligations.WalkFindsNewestEqualBlock : Prop :=
  ∀ (s : State) (a0 a1 : Field), s.failed = false → s.bhReady = true → s.IndexInv →
    a1.toNat ≤ max32 → a1.toNat + s.params.b ≤ s.tgtSize →
    (a0.toNat < 2 ^ s.params.w → ∃ r : Field,
      exec (.bhFirstMatch a0 a1) s = .next (s.respond (Response.okay r 0 0 0)) ∧
      (r = sfield (-1) ∨ ∃ k : Nat, r = field k ∧ (k : Int) ≤ s.bhLastBlock ∧ s.SameBytes a1.toNat k) ∧
      (a0.toNat = s.hashAt .tgt a1.toNat →
        (∃ k : Nat, r = field k ∧ (k : Int) ≤ s.bhLastBlock ∧ s.SameBytes a1.toNat k ∧
          ∀ j : Nat, k < j → (j : Int) ≤ s.bhLastBlock → ¬ s.SameBytes a1.toNat j) ∨
        (r = sfield (-1) ∧ ∀ j : Nat, (j : Int) ≤ s.bhLastBlock → ¬ s.SameBytes a1.toNat j))) ∧
    (0 ≤ s64 a0 → s64 a0 ≤ s.bhLastBlock → ∃ r : Field,
      exec (.bhNextMatch a0 a1) s = .next (s.respond (Response.okay r 0 0 0)) ∧
      (r = sfield (-1) ∨ ∃ k : Nat, r = field k ∧ k < a0.toNat ∧ s.SameBytes a1.toNat k) ∧
      (s.SameBytes a1.toNat a0.toNat →
        (∃ k : Nat, r = field k ∧ k < a0.toNat ∧ s.SameBytes a1.toNat k ∧
          ∀ j : Nat, k < j → j < a0.toNat → ¬ s.SameBytes a1.toNat j) ∨
        (r = sfield (-1) ∧ ∀ j : Nat, j < a0.toNat → ¬ s.SameBytes a1.toNat j)))

/-- The faults of the search commands, in order: NOT_INITIALIZED before BH_INIT, BAD_OPERAND for a hash not
below `2^W` or a block not in the index, then BAD_OPERAND for a probe outside the target buffer
(42_block_hash.md rules R156, R157, R160). -/
def Obligations.SearchFaults : Prop :=
  ∀ (s : State) (a0 a1 : Field), s.failed = false →
    (s.bhReady = false →
      exec (.bhFirstMatch a0 a1) s = .next (s.takeFault 0x32 .notInitialized 0) ∧
      exec (.bhNextMatch a0 a1) s = .next (s.takeFault 0x33 .notInitialized 0) ∧
      exec (.bhFindBest a0 a1) s = .next (s.takeFault 0x34 .notInitialized 0)) ∧
    (s.bhReady = true →
      (2 ^ s.params.w ≤ a0.toNat →
        exec (.bhFirstMatch a0 a1) s = .next (s.takeFault 0x32 .badOperand a0) ∧
        exec (.bhFindBest a0 a1) s = .next (s.takeFault 0x34 .badOperand a0)) ∧
      (s64 a0 < 0 ∨ s.bhLastBlock < s64 a0 →
        exec (.bhNextMatch a0 a1) s = .next (s.takeFault 0x33 .badOperand a0)) ∧
      (max32 < a1.toNat ∨ s.tgtSize < a1.toNat + s.params.b →
        (a0.toNat < 2 ^ s.params.w →
          exec (.bhFirstMatch a0 a1) s = .next (s.takeFault 0x32 .badOperand a1) ∧
          exec (.bhFindBest a0 a1) s = .next (s.takeFault 0x34 .badOperand a1)) ∧
        (0 ≤ s64 a0 → s64 a0 ≤ s.bhLastBlock →
          exec (.bhNextMatch a0 a1) s = .next (s.takeFault 0x33 .badOperand a1))) ∧
      (a0.toNat < 2 ^ s.params.w → a1.toNat < s.tgtLo →
        exec (.bhFindBest a0 a1) s = .next (s.takeFault 0x34 .badOperand a1)))

/-- Every match reported is true: BH_FIND_BEST leaves BM_* as they were, or writes a strictly larger match
whose bytes agree and which lies inside both buffers, and it writes nothing else (42_block_hash.md rules
R160, R164, R165). -/
def Obligations.FindBestReportsTrueMatches : Prop :=
  ∀ (s : State) (a0 a1 : Field), s.failed = false → s.bhReady = true → s.IndexInv →
    a0.toNat < 2 ^ s.params.w → a1.toNat ≤ max32 → s.tgtLo ≤ a1.toNat →
    a1.toNat + s.params.b ≤ s.tgtSize →
    ∃ (src : Int) (tgt size : Nat),
      exec (.bhFindBest a0 a1) s =
        .next ({ s with bmSrc := src, bmTgt := tgt, bmSize := size }.respond
          (Response.okay (sfield src) (field tgt) (field size) 0)) ∧
      ((src = s.bmSrc ∧ tgt = s.bmTgt ∧ size = s.bmSize) ∨
       (s.bmSize < size ∧ s.params.b ≤ size ∧ s.tgtLo ≤ tgt ∧ tgt ≤ a1.toNat ∧
        tgt + size ≤ s.tgtSize ∧
        ∃ o : Nat, src = ((o + s.bhStartOffset : Nat) : Int) ∧ o + size ≤ s.srcSize ∧
          ∀ j < size, s.readByte .src (o + j) = s.readByte .tgt (tgt + j)))

/-- The best match is the largest: given the probe's hash, BH_FIND_BEST examines the first MAX_MATCHES blocks
with the probe's bytes, the newest first, and BM_SIZE becomes the largest of their match sizes and of the
BM_SIZE before; of equal sizes the match already there is kept, then the newest block's (42_block_hash.md
rules R160, R161, R162, R168). -/
def Obligations.FindBestKeepsTheLargest : Prop :=
  ∀ (s : State) (a0 a1 : Field), s.failed = false → s.bhReady = true → s.IndexInv →
    s.params.w ≤ 63 → a0.toNat = s.hashAt .tgt a1.toNat → a1.toNat ≤ max32 → s.tgtLo ≤ a1.toNat →
    a1.toNat + s.params.b ≤ s.tgtSize →
    ∃ (src : Int) (tgt size : Nat),
      exec (.bhFindBest a0 a1) s =
        .next ({ s with bmSrc := src, bmTgt := tgt, bmSize := size }.respond
          (Response.okay (sfield src) (field tgt) (field size) 0)) ∧
      s.bmSize ≤ size ∧
      (∀ k ∈ (s.equalBlocks a1.toNat).take s.params.maxMatches, s.matchSize a1.toNat k ≤ size) ∧
      ((src = s.bmSrc ∧ tgt = s.bmTgt ∧ size = s.bmSize) ∨
       ∃ k ∈ (s.equalBlocks a1.toNat).take s.params.maxMatches,
         s.bmSize < size ∧ size = s.matchSize a1.toNat k ∧
         src = ((k * s.params.b - s.extendLeft (k * s.params.b) a1.toNat + s.bhStartOffset : Nat) : Int) ∧
         tgt = a1.toNat - s.extendLeft (k * s.params.b) a1.toNat ∧
         ∀ j ∈ (s.equalBlocks a1.toNat).take s.params.maxMatches, k < j → s.matchSize a1.toNat j < size)

/-- A match is extended as far as bytes match, bounded by the edges of the buffers: to the left by offset 0
and TGT_LO, to the right by SRC_SIZE and TGT_SIZE (42_block_hash.md rules R158, R159). -/
def Obligations.ExtensionsAreLargest : Prop :=
  ∀ (s : State) (a tpos : Nat),
    (let n := s.extendLeft a tpos
     n ≤ a ∧ n ≤ tpos - s.tgtLo ∧
     (∀ j, 1 ≤ j → j ≤ n → s.readByte .src (a - j) = s.readByte .tgt (tpos - j)) ∧
     (n < a → n < tpos - s.tgtLo →
       s.readByte .src (a - (n + 1)) ≠ s.readByte .tgt (tpos - (n + 1)))) ∧
    (let n := s.extendRight a tpos
     n ≤ s.srcSize - (a + s.params.b) ∧ n ≤ s.tgtSize - (tpos + s.params.b) ∧
     (∀ j < n, s.readByte .src (a + s.params.b + j) = s.readByte .tgt (tpos + s.params.b + j)) ∧
     (n < s.srcSize - (a + s.params.b) → n < s.tgtSize - (tpos + s.params.b) →
       s.readByte .src (a + s.params.b + n) ≠ s.readByte .tgt (tpos + s.params.b + n)))

/-! ### The address cache -/

/-- `Update(addr)` writes the next slot of the near ring and moves on, and the entry of the same cache that
`addr` maps to; every other entry and the sizes stay (43_address_cache.md rule R171). -/
def Obligations.CacheUpdate : Prop :=
  ∀ (c : AddrCache) (addr : Nat), c.Inv →
    (c.update addr).nearSize = c.nearSize ∧ (c.update addr).sameSize = c.sameSize ∧
    (0 < c.nearSize → (c.update addr).nextSlot = (c.nextSlot + 1) % c.nearSize ∧
      ∀ i, readZero (c.update addr).near i = if i = c.nextSlot then addr else readZero c.near i) ∧
    (c.nearSize = 0 → (c.update addr).nextSlot = c.nextSlot ∧ (c.update addr).near = c.near) ∧
    (0 < c.sameSize → ∀ i, readZero (c.update addr).same i =
      if i = addr % (c.sameSize * 256) then addr else readZero c.same i) ∧
    (c.sameSize = 0 → (c.update addr).same = c.same)

/-- `Choose(addr, here)` is a candidate of least wire length, and of those the one of the lowest mode. With
cache sizes (0, 0) an update does nothing, and the choice is HERE exactly where it is strictly shorter than
SELF (43_address_cache.md rules R172, R173, R180). -/
def Obligations.ChooseIsShortest : Prop :=
  (∀ (c : AddrCache) (addr here : Nat), c.Inv → addr < here → here ≤ max32 →
    c.Candidate addr here (c.choose addr here).mode (c.choose addr here).value
      (c.choose addr here).len ∧
    ∀ mode value len, c.Candidate addr here mode value len →
      (c.choose addr here).len < len ∨
      ((c.choose addr here).len = len ∧ (c.choose addr here).mode ≤ mode)) ∧
  (∀ (c : AddrCache) (addr here : Nat), c.nearSize = 0 → c.sameSize = 0 →
    c.update addr = c ∧
    (varintLength (here - addr) < varintLength addr →
      (c.choose addr here).mode = 1 ∧ (c.choose addr here).value = here - addr) ∧
    (varintLength addr ≤ varintLength (here - addr) →
      (c.choose addr here).mode = 0 ∧ (c.choose addr here).value = addr))

/-- AC_ENCODE answers the mode and value chosen and updates the cache, AC_DECODE answers the address and the
new cursor, updates the cache and moves IN_CURSOR; neither writes anything else. Their faults carry the
information their rules name, END_OF_DATA changes nothing (43_address_cache.md rules R176, R178). -/
def Obligations.AddressCommandsComplete : Prop :=
  ∀ (s : State) (a0 a1 : Field), s.failed = false →
    (s.serState ≠ .uninit →
      exec (.acEncode a0 a1) s = .next (s.takeFault 0x42 .badState (field s.serState.code)) ∧
      exec (.acDecode a0 a1) s = .next (s.takeFault 0x43 .badState (field s.serState.code))) ∧
    (s.serState = .uninit →
      (s64 a0 < 0 ∨ (max32 : Int) < s64 a1 ∨ s64 a1 ≤ s64 a0 →
        exec (.acEncode a0 a1) s = .next (s.takeFault 0x42 .badOperand a0)) ∧
      (0 ≤ s64 a0 → s64 a0 < s64 a1 → s64 a1 ≤ max32 →
        exec (.acEncode a0 a1) s =
          .next ({ s with cache := s.cache.update a0.toNat }.respond
            (Response.okay (field (s.cache.choose a0.toNat a1.toNat).mode)
              (field (s.cache.choose a0.toNat a1.toNat).value) 0 0))) ∧
      (let d := s.cache.decode (s.readByte .inp) s.inCursor s.inLimit (s64 a0) a1.toNat
       (∀ addr q, d = .ok addr q → exec (.acDecode a0 a1) s =
         .next ({ s with cache := s.cache.update addr, inCursor := q }.respond
           (Response.okay (field addr) (field q) 0 0))) ∧
       (d = .endOfData → exec (.acDecode a0 a1) s = .next (s.respond (Response.bare .endOfData))) ∧
       (∀ c, d = .error c → exec (.acDecode a0 a1) s =
         .next (s.takeFault 0x43 c (match c with
           | .addrHereNonpositive => a0
           | .addrBadMode => a1
           | _ => field s.inCursor)))))

/-- What `Decode` answers, its checks in order: the here address, the mode, the byte of a SAME mode or the
varint of another, the NEAR sum, the range of the address (43_address_cache.md rule R177). -/
def Obligations.DecodeChecksInOrder : Prop :=
  ∀ (c : AddrCache) (mem : Nat → Byte) (cursor limit : Nat) (here : Int) (mode : Nat),
    let range (addr : Int) (q : Nat) : AddrResult :=
      if 0 ≤ addr ∧ addr < here then .ok addr.toNat q else .error .addrOutOfRange
    let d := c.decode mem cursor limit here mode
    (here ≤ 0 ∨ (max32 : Int) < here → d = .error .addrHereNonpositive) ∧
    (0 < here → here ≤ max32 →
      (1 + c.nearSize + c.sameSize < mode → d = .error .addrBadMode) ∧
      (mode ≤ 1 + c.nearSize + c.sameSize →
        (2 + c.nearSize ≤ mode →
          (limit ≤ cursor → d = .endOfData) ∧
          (cursor < limit → d = range
            (readZero c.same ((mode - 2 - c.nearSize) * 256 + (mem cursor).toNat)) (cursor + 1))) ∧
        (mode < 2 + c.nearSize →
          (varintParse .w32 mem cursor limit = .endOfData → d = .endOfData) ∧
          (varintParse .w32 mem cursor limit = .error → d = .error .varintOverflow) ∧
          (∀ v q, varintParse .w32 mem cursor limit = .ok v q →
            (mode = 0 → d = range v q) ∧
            (mode = 1 → d = range (here - v) q) ∧
            (2 ≤ mode → max32 < readZero c.near (mode - 2) + v → d = .error .addrNearOverflow) ∧
            (2 ≤ mode → readZero c.near (mode - 2) + v ≤ max32 →
              d = range ((readZero c.near (mode - 2) : Int) + v) q)))))

/-- Encoding and then decoding a sequence of addresses with caches that start alike gives the addresses back,
consumes exactly the address fields written, and leaves the two caches alike (43_address_cache.md rule
R179). -/
def Obligations.AddressRoundTrip : Prop :=
  ∀ (c : AddrCache) (pairs : List (Nat × Nat)) (mem : Nat → Byte) (cursor limit : Nat), c.Inv →
    (∀ e ∈ pairs, e.1 < e.2 ∧ e.2 ≤ max32) →
    (∀ i < (c.encodeAll pairs).2.1.length,
      (c.encodeAll pairs).2.1[i]? = some (mem (cursor + i))) →
    cursor + (c.encodeAll pairs).2.1.length ≤ limit →
    c.decodeAll mem cursor limit ((pairs.map Prod.snd).zip (c.encodeAll pairs).1) =
      some (pairs.map Prod.fst, cursor + (c.encodeAll pairs).2.1.length, (c.encodeAll pairs).2.2)

/-! ### The code table -/

/-- The default table, entry by entry (30_encoding.md rules R96, R97, R98, R99, R100, R101). -/
def Obligations.DefaultTable : Prop :=
  defaultEntry 0 = ⟨2, 0, 0, 0, 0, 0⟩ ∧
  (∀ s ≤ 17, defaultEntry (1 + s) = ⟨1, byte s, 0, 0, 0, 0⟩) ∧
  (∀ m ≤ 8, defaultEntry (19 + 16 * m) = ⟨3, 0, byte m, 0, 0, 0⟩ ∧
    ∀ s ≤ 18, 4 ≤ s → defaultEntry (19 + 16 * m + (s - 3)) = ⟨3, byte s, byte m, 0, 0, 0⟩) ∧
  (∀ m ≤ 5, ∀ a ≤ 4, 1 ≤ a → ∀ c ≤ 6, 4 ≤ c →
    defaultEntry (163 + 12 * m + 3 * (a - 1) + (c - 4)) = ⟨1, byte a, 0, 3, byte c, byte m⟩) ∧
  (∀ m ≤ 8, 6 ≤ m → ∀ a ≤ 4, 1 ≤ a →
    defaultEntry (235 + 4 * (m - 6) + (a - 1)) = ⟨1, byte a, 0, 3, 4, byte m⟩) ∧
  (∀ m ≤ 8, defaultEntry (247 + m) = ⟨3, 4, byte m, 1, 1, 0⟩)

/-- CT_WRITE sets one entry from its packed form, clears CT_VALID and changes nothing else; CT_READ answers
an entry packed and changes nothing, so that it reads back what was written (44_code_table.md rules R195,
R196; 30_encoding.md rules R93, R94). -/
def Obligations.CodeTableReadsBackWhatWasWritten : Prop :=
  ∀ (s : State) (a0 a1 : Field), s.failed = false →
    (255 < a0.toNat → exec (.ctRead a0) s = .next (s.takeFault 0x52 .badOperand a0)) ∧
    (a0.toNat ≤ 255 → exec (.ctRead a0) s = .next (s.respond (Response.okay
      (let e := s.ctEntry a0.toNat
       field (e.inst1.toNat ||| e.size1.toNat <<< 8 ||| e.mode1.toNat <<< 16 ||| e.inst2.toNat <<< 24 |||
         e.size2.toNat <<< 32 ||| e.mode2.toNat <<< 40)) 0 0 0))) ∧
    (s.serState ≠ .uninit →
      exec (.ctWrite a0 a1) s = .next (s.takeFault 0x51 .badState (field s.serState.code))) ∧
    (s.serState = .uninit →
      (255 < a0.toNat → exec (.ctWrite a0 a1) s = .next (s.takeFault 0x51 .badOperand a0)) ∧
      (a0.toNat ≤ 255 → 2 ^ 48 ≤ a1.toNat →
        exec (.ctWrite a0 a1) s = .next (s.takeFault 0x51 .badOperand a1)) ∧
      (a0.toNat ≤ 255 → a1.toNat < 2 ^ 48 → Sparse.rising s.ct = true →
        ∃ t : State, exec (.ctWrite a0 a1) s = .next (t.respond (Response.okay 0 0 0 0)) ∧
          t.ctValid = false ∧
          (∀ op, op ≠ a0.toNat → t.ctEntry op = s.ctEntry op) ∧
          exec (.ctRead a0) t = .next (t.respond (Response.okay a1 0 0 0)) ∧
          { t with ct := s.ct, ctValid := s.ctValid } = s))

/-- CT_VALIDATE accepts a table exactly when every half is legal and every combination has an opcode of size
0, and then sets CT_VALID and CT_MAXMODE only; otherwise INVALID_CODE_TABLE with the lowest opcode that has
an illegal half, or the first missing combination (44_code_table.md rules R191, R197). That an ADD or RUN with
a mode other than 0 is an illegal half is 92_eei_decisions.md D36 and 93_implementation_defined.md U31, which
rule R191's own remark contradicts (DEDUCED, log 15). -/
def Obligations.CtValidateCompletes : Prop :=
  ∀ (s : State) (a0 : Field), s.failed = false →
    (s.serState ≠ .uninit →
      exec (.ctValidate a0) s = .next (s.takeFault 0x53 .badState (field s.serState.code))) ∧
    (s.serState = .uninit → 255 < a0.toNat →
      exec (.ctValidate a0) s = .next (s.takeFault 0x53 .badOperand a0)) ∧
    (s.serState = .uninit → a0.toNat ≤ 255 →
      let legal (h : Half) : Prop :=
        h.inst.toNat ≤ 3 ∧ h.mode.toNat ≤ a0.toNat ∧ (h.inst = instNoop → h.size = 0 ∧ h.mode = 0) ∧
        (h.inst = instAdd ∨ h.inst = instRun → h.mode = 0)
      let legalEntry (op : Nat) : Prop := legal (s.ctEntry op).first ∧ legal (s.ctEntry op).second
      let expressed (inst : Byte) (mode : Nat) : Prop :=
        ∃ op < 256, (s.ctEntry op).IsSingle ⟨inst, 0, BitVec.ofNat 8 mode⟩
      let needed (inst : Byte) (mode : Nat) (info : Nat) : Prop :=
        (inst = instAdd ∧ mode = 0 ∧ info = 0x200) ∨ (inst = instRun ∧ mode = 0 ∧ info = 0x300) ∨
        (inst = instCopy ∧ mode ≤ a0.toNat ∧ info = 0x400 + mode)
      ((∀ op < 256, legalEntry op) ∧ (∀ inst mode info, needed inst mode info → expressed inst mode) →
        exec (.ctValidate a0) s = .next ({ s with ctValid := true, ctMaxMode := a0.toNat }.respond
          (Response.okay 0 0 0 0))) ∧
      (∀ op < 256, ¬ legalEntry op → (∀ j < op, legalEntry j) →
        exec (.ctValidate a0) s = .next (s.takeFault 0x53 .invalidCodeTable (field op))) ∧
      ((∀ op < 256, legalEntry op) → ∀ inst mode info, needed inst mode info →
        ¬ expressed inst mode →
        (∀ inst' mode' info', needed inst' mode' info' → info' < info → expressed inst' mode') →
        exec (.ctValidate a0) s = .next (s.takeFault 0x53 .invalidCodeTable (field info))))

/-- IM_FIRST answers the lowest opcode that stands for the single instruction, IM_SECOND the lowest compound
opcode whose second half is the instruction and whose first half is the instruction that `first` is the
lowest opcode of, or 0x100 where there is none; neither changes anything (44_code_table.md rules R190, R192,
R193, R198, R199). -/
def Obligations.InstructionMapFindsTheLowest : Prop :=
  ∀ (s : State) (a0 a1 a2 a3 : Field), s.failed = false →
    (255 < a0.toNat → exec (.imFirst a0 a1 a2) s = .next (s.takeFault 0x54 .badOperand a0) ∧
      exec (.imSecond a0 a1 a2 a3) s = .next (s.takeFault 0x55 .badOperand a0)) ∧
    (a0.toNat ≤ 255 → 255 < a1.toNat →
      exec (.imFirst a0 a1 a2) s = .next (s.takeFault 0x54 .badOperand a1) ∧
      exec (.imSecond a0 a1 a2 a3) s = .next (s.takeFault 0x55 .badOperand a1)) ∧
    (a0.toNat ≤ 255 → a1.toNat ≤ 255 → 255 < a2.toNat →
      exec (.imFirst a0 a1 a2) s = .next (s.takeFault 0x54 .badOperand a2) ∧
      exec (.imSecond a0 a1 a2 a3) s = .next (s.takeFault 0x55 .badOperand a2)) ∧
    (a0.toNat ≤ 255 → a1.toNat ≤ 255 → a2.toNat ≤ 255 → 255 < a3.toNat →
      exec (.imSecond a0 a1 a2 a3) s = .next (s.takeFault 0x55 .badOperand a3)) ∧
    (a0.toNat ≤ 255 → a1.toNat ≤ 255 → a2.toNat ≤ 255 →
      let h : Half := ⟨BitVec.ofNat 8 a0.toNat, BitVec.ofNat 8 a1.toNat, BitVec.ofNat 8 a2.toNat⟩
      ∃ r : Nat, exec (.imFirst a0 a1 a2) s = .next (s.respond (Response.okay (field r) 0 0 0)) ∧
        r = lookupFirst s.ctEntry h ∧
        ((r < 256 ∧ (s.ctEntry r).IsSingle h ∧ ∀ op < r, ¬ (s.ctEntry op).IsSingle h) ∨
         (r = 256 ∧ ∀ op < 256, ¬ (s.ctEntry op).IsSingle h))) ∧
    (a0.toNat ≤ 255 → a1.toNat ≤ 255 → a2.toNat ≤ 255 → a3.toNat ≤ 255 →
      let matching (op : Nat) : Prop :=
        (s.ctEntry op).inst1 ≠ instNoop ∧ (s.ctEntry op).inst2 ≠ instNoop ∧
        (s.ctEntry op).second =
          ⟨BitVec.ofNat 8 a1.toNat, BitVec.ofNat 8 a2.toNat, BitVec.ofNat 8 a3.toNat⟩ ∧
        lookupFirst s.ctEntry (s.ctEntry op).first = a0.toNat
      ∃ r : Nat, exec (.imSecond a0 a1 a2 a3) s = .next (s.respond (Response.okay (field r) 0 0 0)) ∧
        ((r < 256 ∧ matching r ∧ ∀ op < r, ¬ matching op) ∨ (r = 256 ∧ ∀ op < 256, ¬ matching op)))

/-- The laws the serializer rests on: the opcode looked up for what an opcode stands for is not above it and
stands for the same; a compound opcode found for `f` and `t` stands for the instruction of `f` followed by
`t`; and in a table that has passed validation every instruction the serializer can be asked for has an
opcode (44_code_table.md rule R200). -/
def Obligations.LookupLaws : Prop :=
  ∀ tbl : Nat → CtEntry,
    (∀ op < 256, ∀ h, (tbl op).single = some h →
      lookupFirst tbl h ≤ op ∧ (tbl (lookupFirst tbl h)).single = some h) ∧
    (∀ f < 256, ∀ h, lookupSecond tbl f h < 256 →
      (tbl (lookupSecond tbl f h)).second = h ∧
      (tbl f).single = some (tbl (lookupSecond tbl f h)).first) ∧
    (∀ maxMode ≤ 255, tableValid tbl maxMode = true →
      lookupFirst tbl ⟨instAdd, 0, 0⟩ < 256 ∧ lookupFirst tbl ⟨instRun, 0, 0⟩ < 256 ∧
      ∀ m ≤ maxMode, lookupFirst tbl ⟨instCopy, 0, BitVec.ofNat 8 m⟩ < 256)

/-! ### The serializer -/

/-- SER_START opens a stream: it writes the five bytes of the file header to OUT, sets the format flags,
clears the source segment and the window, and writes nothing else; its faults come in the order of its rule
(45_serializer.md rules R211, R222; 30_encoding.md rule R104). That the reader of the window goes to its start
is the model's choice (log 10). -/
def Obligations.SerStartCompletes : Prop :=
  ∀ (s : State) (a0 : Field), s.failed = false →
    (s.serState ≠ .uninit →
      exec (.serStart a0) s = .next (s.takeFault 0x60 .badState (field s.serState.code))) ∧
    (s.serState = .uninit →
      (3 < a0.toNat → exec (.serStart a0) s = .next (s.takeFault 0x60 .badOperand a0)) ∧
      (a0.toNat ≤ 3 → s.ctValid = false →
        exec (.serStart a0) s = .next (s.takeFault 0x60 .badState 0x100)) ∧
      (a0.toNat ≤ 3 → s.ctValid = true → s.ctMaxMode < 1 + s.cache.nearSize + s.cache.sameSize →
        exec (.serStart a0) s = .next (s.takeFault 0x60 .badState 0x200)) ∧
      (a0.toNat ≤ 3 → s.ctValid = true → 1 + s.cache.nearSize + s.cache.sameSize ≤ s.ctMaxMode →
        s.params.outCap < s.outLen + 5 →
        exec (.serStart a0) s = .next (s.takeFault 0x60 .capacity 6)) ∧
      (a0.toNat ≤ 3 → s.ctValid = true → 1 + s.cache.nearSize + s.cache.sameSize ≤ s.ctMaxMode →
        s.outLen + 5 ≤ s.params.outCap →
        ∃ t : State, exec (.serStart a0) s = .next (t.respond (Response.okay 5 0 0 0)) ∧
          t.readBytes .out s.outLen 5 = [0xD6, 0xC3, 0xC4, if a0 = 0 then 0x00 else 0x53, 0x00] ∧
          (∀ sp a, sp ≠ .out ∨ a < s.outLen ∨ s.outLen + 5 ≤ a → t.readByte sp a = s.readByte sp a) ∧
          { t with out := s.out } =
            { s with serState := .ready, outLen := s.outLen + 5,
                     interleaved := a0.getLsbD 0, checksumOn := a0.getLsbD 1,
                     winSrcMode := .none, winSrcSize := 0, winSrcPos := 0,
                     dataLen := 0, instLen := 0, addrLen := 0, winTargetLen := 0,
                     lastOpcodeIndex := -1, winHasChecksum := false, winChecksum := 0,
                     cache := ⟨s.cache.nearSize, s.cache.sameSize, 0, [], []⟩,
                     reader := Reader.atStart s.cache.nearSize s.cache.sameSize }))

/-- SER_WINDOW sets the source segment in READY, SER_CHECKSUM the checksum of the window while the stream's
CHECKSUM flag is on, SER_FINISH closes a stream with no window pending; each writes nothing else, and its
faults come in the order of its rule (45_serializer.md rules R213, R220, R223). -/
def Obligations.SerSettingsComplete : Prop :=
  ∀ (s : State) (a0 a1 a2 : Field), s.failed = false →
    (s.serState ≠ .ready →
      exec (.serWindow a0 a1 a2) s = .next (s.takeFault 0x61 .badState (field s.serState.code))) ∧
    (s.serState = .ready →
      (2 < a0.toNat → exec (.serWindow a0 a1 a2) s = .next (s.takeFault 0x61 .badOperand a0)) ∧
      (a0.toNat ≤ 2 → max32 < a1.toNat →
        exec (.serWindow a0 a1 a2) s = .next (s.takeFault 0x61 .badOperand a1)) ∧
      (a0.toNat ≤ 2 → a1.toNat ≤ max32 → max32 < a2.toNat →
        exec (.serWindow a0 a1 a2) s = .next (s.takeFault 0x61 .badOperand a2)) ∧
      (a1.toNat ≤ max32 → a2.toNat ≤ max32 →
        (a0 = 0 → exec (.serWindow a0 a1 a2) s =
          .next ({ s with winSrcMode := .none, winSrcSize := 0, winSrcPos := 0 }.respond
            (Response.okay 0 0 0 0))) ∧
        (a0 = 1 → exec (.serWindow a0 a1 a2) s =
          .next ({ s with winSrcMode := .source, winSrcSize := a1.toNat, winSrcPos := a2.toNat }.respond
            (Response.okay 0 0 0 0))) ∧
        (a0 = 2 → exec (.serWindow a0 a1 a2) s =
          .next ({ s with winSrcMode := .target, winSrcSize := a1.toNat, winSrcPos := a2.toNat }.respond
            (Response.okay 0 0 0 0))))) ∧
    (s.serState = .uninit →
      exec (.serChecksum a0) s = .next (s.takeFault 0x65 .badState 0) ∧
      exec .serFinish s = .next (s.takeFault 0x67 .badState 0)) ∧
    (s.serState ≠ .uninit →
      (s.checksumOn = false → exec (.serChecksum a0) s = .next (s.takeFault 0x65 .badState 0x300)) ∧
      (s.checksumOn = true → 2 ^ 32 ≤ a0.toNat →
        exec (.serChecksum a0) s = .next (s.takeFault 0x65 .badOperand a0)) ∧
      (s.checksumOn = true → a0.toNat < 2 ^ 32 → exec (.serChecksum a0) s =
        .next ({ s with winChecksum := a0.toNat, winHasChecksum := true }.respond
          (Response.okay 0 0 0 0)))) ∧
    (s.serState = .inWindow →
      exec .serFinish s = .next (s.takeFault 0x67 .pendingWindow (field s.winTargetLen))) ∧
    (s.serState = .ready →
      exec .serFinish s = .next ({ s with serState := .uninit }.respond (Response.okay 0 0 0 0)))

/-- `Plan` makes its attempts in order: a compound opcode with the size in it, a compound opcode with the
size as a varint, a single opcode with the size in it, a single opcode with the size as a varint; the first
two only where an opcode may still be rewritten, the first and third only for a size of at most 255
(45_serializer.md rule R215). -/
def Obligations.PlanTriesInOrder : Prop :=
  ∀ (s : State) (inst : Byte) (size mode : Nat),
    let last := (s.readByte .inst s.lastOpcodeIndex.toNat).toNat
    let c1 := lookupSecond s.ctEntry last ⟨inst, byte size, byte mode⟩
    let c2 := lookupSecond s.ctEntry last ⟨inst, 0, byte mode⟩
    let o1 := lookupFirst s.ctEntry ⟨inst, byte size, byte mode⟩
    let o2 := lookupFirst s.ctEntry ⟨inst, 0, byte mode⟩
    let first := 0 ≤ s.lastOpcodeIndex ∧ size ≤ 255 ∧ c1 < 256
    let second := 0 ≤ s.lastOpcodeIndex ∧ c2 < 256
    let third := size ≤ 255 ∧ o1 < 256
    (first → s.plan inst size mode = some ⟨some (byte c1), [], -1⟩) ∧
    (¬ first → second → s.plan inst size mode = some ⟨some (byte c2), varintEncode size, -1⟩) ∧
    (¬ first → ¬ second → third → s.plan inst size mode = some ⟨none, [byte o1], s.instLen⟩) ∧
    (¬ first → ¬ second → ¬ third → o2 < 256 →
      s.plan inst size mode = some ⟨none, byte o2 :: varintEncode size, s.instLen⟩)

/-- SER_ADD, SER_RUN and SER_COPY accumulate their instruction: the plan's bytes in INST, the operand bytes
in the sink, WIN_TARGET_LEN, LAST_OPCODE_INDEX and IN_WINDOW, and for COPY the cache; every other byte and
register stays. They do so in every state of an open stream, for operands in range, exactly where the plan's
bytes and the operand bytes fit; elsewhere they end with CAPACITY, the number of the space that overflows as
the information, the lowest first (45_serializer.md rules R214, R215, R216, R217, R218, R219; 44_code_table.md
rule R200). That the reader of the window starts again is the model's choice (log 10). -/
def Obligations.SerInstructionsComplete : Prop :=
  ∀ (s : State) (a0 a1 : Field), s.failed = false → s.SerInv → s.cache.Inv → s.serState ≠ .uninit →
    (0 < s64 a1 → (s.winSrcSize + s.winTargetLen : Nat) + s64 a1 ≤ max32 →
      a0.toNat + a1.toNat ≤ s.tgtSize → a0.toNat ≤ max32 →
      ∃ p : Plan, s.plan instAdd a1.toNat 0 = some p ∧
        (s.fits p .data a1.toNat → ∃ t : State,
          exec (.serAdd a0 a1) s = .next (t.respond (Response.okay 0 0 0 0)) ∧
          s.Accumulated t p .data (s.readBytes .tgt a0.toNat a1.toNat) a1.toNat ∧ t.cache = s.cache) ∧
        (∀ full, s.lacks p .data a1.toNat full →
          exec (.serAdd a0 a1) s = .next (s.takeFault 0x62 .capacity (field full)))) ∧
    (0 < s64 a0 → (s.winSrcSize + s.winTargetLen : Nat) + s64 a0 ≤ max32 → a1.toNat ≤ 255 →
      ∃ p : Plan, s.plan instRun a0.toNat 0 = some p ∧
        (s.fits p .data 1 → ∃ t : State,
          exec (.serRun a0 a1) s = .next (t.respond (Response.okay 0 0 0 0)) ∧
          s.Accumulated t p .data [BitVec.ofNat 8 a1.toNat] a0.toNat ∧ t.cache = s.cache) ∧
        (∀ full, s.lacks p .data 1 full →
          exec (.serRun a0 a1) s = .next (s.takeFault 0x63 .capacity (field full)))) ∧
    (0 < s64 a1 → (s.winSrcSize + s.winTargetLen : Nat) + s64 a1 ≤ max32 →
      0 ≤ s64 a0 → s64 a0 < (s.winSrcSize + s.winTargetLen : Nat) →
      let ch := s.cache.choose a0.toNat (s.winSrcSize + s.winTargetLen)
      let f := if 2 + s.cache.nearSize ≤ ch.mode then [byte ch.value] else varintEncode ch.value
      ∃ p : Plan, s.plan instCopy a1.toNat ch.mode = some p ∧
        (s.fits p .addr f.length → ∃ t : State,
          exec (.serCopy a0 a1) s =
            .next (t.respond (Response.okay (field ch.mode) (field ch.value) 0 0)) ∧
          s.Accumulated t p .addr f a1.toNat ∧ t.cache = s.cache.update a0.toNat) ∧
        (∀ full, s.lacks p .addr f.length full →
          exec (.serCopy a0 a1) s = .next (s.takeFault 0x64 .capacity (field full))))

/-- The faults of SER_ADD, SER_RUN and SER_COPY before the plan, in order: BAD_STATE in UNINIT,
NEGATIVE_VALUE and BAD_OPERAND for the size, BAD_OPERAND for the other operand (45_serializer.md rules R216,
R217, R218, R219). -/
def Obligations.SerInstructionFaults : Prop :=
  ∀ (s : State) (a0 a1 : Field), s.failed = false →
    let tooLong (z : Int) : Prop := z = 0 ∨ (max32 : Int) < (s.winSrcSize + s.winTargetLen : Nat) + z
    let fits (z : Int) : Prop := 0 < z ∧ (s.winSrcSize + s.winTargetLen : Nat) + z ≤ max32
    (s.serState = .uninit →
      exec (.serAdd a0 a1) s = .next (s.takeFault 0x62 .badState 0) ∧
      exec (.serRun a0 a1) s = .next (s.takeFault 0x63 .badState 0) ∧
      exec (.serCopy a0 a1) s = .next (s.takeFault 0x64 .badState 0)) ∧
    (s.serState ≠ .uninit →
      (s64 a1 < 0 → exec (.serAdd a0 a1) s = .next (s.takeFault 0x62 .negativeValue a1) ∧
        exec (.serCopy a0 a1) s = .next (s.takeFault 0x64 .negativeValue a1)) ∧
      (0 ≤ s64 a1 → tooLong (s64 a1) →
        exec (.serAdd a0 a1) s = .next (s.takeFault 0x62 .badOperand a1) ∧
        exec (.serCopy a0 a1) s = .next (s.takeFault 0x64 .badOperand a1)) ∧
      (s64 a0 < 0 → exec (.serRun a0 a1) s = .next (s.takeFault 0x63 .negativeValue a0)) ∧
      (0 ≤ s64 a0 → tooLong (s64 a0) →
        exec (.serRun a0 a1) s = .next (s.takeFault 0x63 .badOperand a0)) ∧
      (fits (s64 a1) → max32 < a0.toNat ∨ s.tgtSize < a0.toNat + a1.toNat →
        exec (.serAdd a0 a1) s = .next (s.takeFault 0x62 .badOperand a0)) ∧
      (fits (s64 a0) → 255 < a1.toNat →
        exec (.serRun a0 a1) s = .next (s.takeFault 0x63 .badOperand a1)) ∧
      (fits (s64 a1) → s64 a0 < 0 ∨ ((s.winSrcSize + s.winTargetLen : Nat) : Int) ≤ s64 a0 →
        exec (.serCopy a0 a1) s = .next (s.takeFault 0x64 .badOperand a0)))

/-- SER_OUTPUT writes the window to OUT, byte for byte in the layout of the wire format, clears the window
and goes to READY; an empty window is only cleared. No other byte and no other register changes. BAD_STATE
in UNINIT; CAPACITY where the window does not fit (45_serializer.md rules R221, R222; 30_encoding.md rules
R105, R106, R107, R108, R109). That the reader of the window goes to its start is the model's choice
(log 10). -/
def Obligations.SerOutputCompletes : Prop :=
  ∀ s : State, s.failed = false →
    let body := s.readBytes .data 0 s.dataLen ++ s.readBytes .inst 0 s.instLen ++
      s.readBytes .addr 0 s.addrLen
    let fields := varintEncode s.winTargetLen ++ [0x00] ++ varintEncode s.dataLen ++
      varintEncode s.instLen ++ varintEncode s.addrLen ++
      (if s.winHasChecksum then varintEncode s.winChecksum else [])
    let segment := match s.winSrcMode with
      | .none => []
      | _ => varintEncode s.winSrcSize ++ varintEncode s.winSrcPos
    let indicator : Byte := match s.winSrcMode, s.winHasChecksum with
      | .none, false => 0x00
      | .source, false => 0x01
      | .target, false => 0x02
      | .none, true => 0x04
      | .source, true => 0x05
      | .target, true => 0x06
    let bytes := [indicator] ++ segment ++ varintEncode (fields.length + body.length) ++ fields ++ body
    let cleared (t : State) : State :=
      { t with serState := .ready, dataLen := 0, instLen := 0, addrLen := 0, winTargetLen := 0,
               lastOpcodeIndex := -1, winHasChecksum := false, winChecksum := 0,
               cache := ⟨s.cache.nearSize, s.cache.sameSize, 0, [], []⟩,
               reader := Reader.atStart s.cache.nearSize s.cache.sameSize }
    (s.serState = .uninit → exec .serOutput s = .next (s.takeFault 0x66 .badState 0)) ∧
    (s.serState ≠ .uninit →
      (s.winTargetLen = 0 →
        exec .serOutput s = .next ((cleared s).respond (Response.okay 0 0 0 0))) ∧
      (s.winTargetLen ≠ 0 → s.params.outCap < s.outLen + bytes.length →
        exec .serOutput s = .next (s.takeFault 0x66 .capacity 6)) ∧
      (s.winTargetLen ≠ 0 → s.outLen + bytes.length ≤ s.params.outCap →
        ∃ t : State, exec .serOutput s =
            .next (t.respond (Response.okay (field bytes.length) 0 0 0)) ∧
          t.readBytes .out s.outLen bytes.length = bytes ∧
          (∀ sp a, sp ≠ .out ∨ a < s.outLen ∨ s.outLen + bytes.length ≤ a →
            t.readByte sp a = s.readByte sp a) ∧
          { t with out := s.out } = cleared { s with outLen := s.outLen + bytes.length }))

/-- The serializer moves between its states only as its table says, and a serializer command given in a
state the table does not list for it is a fault that leaves the state as it is (45_serializer.md rule
R210). -/
def Obligations.SerializerTransitions : Prop :=
  ∀ (s t : State) (w : CommandWord) (rest : List Input),
    s.inputs = .command w :: rest → s.failed = false → step s = .next t →
    (t.serState = s.serState ∨
      (s.serState = .uninit ∧ opBits w = 0x60 ∧ t.serState = .ready) ∨
      (s.serState = .ready ∧ (opBits w = 0x62 ∨ opBits w = 0x63 ∨ opBits w = 0x64) ∧
        t.serState = .inWindow) ∨
      (s.serState = .inWindow ∧ opBits w = 0x66 ∧ t.serState = .ready) ∨
      (s.serState = .ready ∧ opBits w = 0x67 ∧ t.serState = .uninit) ∨
      ((opBits w = 0x01 ∨ opBits w = 0x02) ∧ t.serState = .uninit)) ∧
    (rsvBits w = 0 →
      ((opBits w = 0x60 ∧ s.serState ≠ .uninit) ∨ (opBits w = 0x61 ∧ s.serState ≠ .ready) ∨
        ((opBits w = 0x62 ∨ opBits w = 0x63 ∨ opBits w = 0x64 ∨ opBits w = 0x65 ∨ opBits w = 0x66 ∨
          opBits w = 0x67) ∧ s.serState = .uninit) →
        t.failed = true ∧ t.errCause = some .badState ∧ t.serState = s.serState) ∧
      (opBits w = 0x67 ∧ s.serState = .inWindow →
        t.failed = true ∧ t.errCause = some .pendingWindow ∧ t.serState = .inWindow))

/-- What the serializer accumulates decodes to what it was given, in both formats and with every table that
has passed validation, and all sections are consumed exactly. If the window decodes to `ds`, then after a
SER_ADD, SER_RUN or SER_COPY that completes it decodes to `ds` and that instruction; after a SER_START or
SER_OUTPUT that completes and after a reset it decodes to nothing; and every other step that leaves the stream
open leaves it decoding to `ds`. So every step keeps an open stream's window one that decodes
(45_serializer.md rules R215, R222, R225 d; 30_encoding.md rule R95; 44_code_table.md rule R200). The reader
that decodes is the model's rendering of rule R95 (log 9). -/
def Obligations.WindowDecodesToWhatWasGiven : Prop :=
  (∀ (s t : State) (ds : List Delta) (a0 a1 : Field), s.SerInv → s.cache.Inv → s.failed = false →
    t.failed = false → s.WindowReads ds →
    (exec (.serAdd a0 a1) s = .next t →
      t.WindowReads (ds ++ [.add a1.toNat (s.readBytes .tgt a0.toNat a1.toNat)])) ∧
    (exec (.serRun a0 a1) s = .next t →
      t.WindowReads (ds ++ [.run a0.toNat (BitVec.ofNat 8 a1.toNat)])) ∧
    (exec (.serCopy a0 a1) s = .next t →
      t.WindowReads (ds ++ [.copy a1.toNat
        (s.cache.choose a0.toNat (s.winSrcSize + s.winTargetLen)).mode a0.toNat]))) ∧
  (∀ (s t : State) (a0 : Field),
    (exec (.serStart a0) s = .next t → t.failed = false → t.WindowReads []) ∧
    (exec .serOutput s = .next t → t.failed = false → t.WindowReads []) ∧
    (exec .sessionReset s = .next t → t.WindowReads []) ∧
    (exec .reset s = .next t → t.WindowReads [])) ∧
  (∀ (s t : State) (ds : List Delta), s.SerInv → s.serState ≠ .uninit → s.WindowReads ds →
    step s = .next t → t.serState ≠ .uninit →
    (t.failed = true ∨ ∀ w rest, s.inputs = .command w :: rest →
      opBits w ≠ 0x62 ∧ opBits w ≠ 0x63 ∧ opBits w ≠ 0x64 ∧ opBits w ≠ 0x66) →
    t.WindowReads ds) ∧
  (∀ s t : State, s.SerInv → s.cache.Inv → (s.serState ≠ .uninit → ∃ ds, s.WindowReads ds) →
    step s = .next t → t.serState ≠ .uninit → ∃ ds, t.WindowReads ds)

/-! ### The opcode bytes of an instructions section -/

/-- An opcode byte changes the reader of the window and nothing else: it reads its whole group and advances,
or reads nothing and records why (30_encoding.md rule R95; the reader is the model's, log 9, log 11). -/
def Obligations.OpcodeBytesChangeOnlyTheReader : Prop :=
  ∀ (s : State) (b : Byte), ∃ r : Reader,
    exec (decodeOpcode b) s = .next { s with reader := r } ∧
    ((r.last = .ok ∧ s.reader.instPos < r.instPos ∧ ∃ ds, r.deltas = s.reader.deltas ++ ds ∧ ds.length ≤ 2) ∨
     (r.last ≠ .ok ∧ r.last ≠ .start ∧ { r with last := s.reader.last } = s.reader))

/-- Opcode bytes 0 to 18 of the default table: 0 is a RUN whose size follows, 1 an ADD whose size follows,
1 + k an ADD of size k. The operand bytes are the next of the data sink, which is INST itself in the
interleaved format (30_encoding.md rules R95, R96, R97, R103). -/
def Obligations.RunAndAddOpcodes : Prop :=
  ∀ s : State, (∀ op, s.ctEntry op = defaultEntry op) →
    let r := s.reader
    let sink : Space := if s.interleaved then .inst else .data
    let stop := if s.interleaved then s.instLen else s.dataLen
    let start (q : Nat) := if s.interleaved then q else r.dataPos
    let read (q n size : Nat) (d : Delta) : Reader :=
      { r with instPos := if s.interleaved then q + n else q,
               dataPos := if s.interleaved then r.dataPos else r.dataPos + n,
               produced := r.produced + size, deltas := r.deltas ++ [d], last := .ok }
    (∀ n q, varintParse .w32 (s.readByte .inst) (r.instPos + 1) s.instLen = .ok n q →
      (start q + 1 ≤ stop →
        exec .ct00 s = .next { s with reader := read q 1 n (.run n (s.readByte sink (start q))) }) ∧
      (start q + n ≤ stop →
        exec .ct01 s = .next { s with reader := read q n n (.add n (s.readBytes sink (start q) n)) })) ∧
    (∀ k, 1 ≤ k → k ≤ 17 → start (r.instPos + 1) + k ≤ stop →
      let d := Delta.add k (s.readBytes sink (start (r.instPos + 1)) k)
      exec (decodeOpcode (byte (1 + k))) s = .next { s with reader := read (r.instPos + 1) k k d })

/-- Opcode bytes 19 to 162 of the default table: for each mode m of 0 to 8, 19 + 16 m is a COPY whose size
follows and 19 + 16 m + (k - 3) a COPY of size k, for k of 4 to 18. The address field is the next of the
address sink, decoded with the reader's cache (30_encoding.md rules R95, R98, R102; 43_address_cache.md rules
R170, R177). -/
def Obligations.CopyOpcodes : Prop :=
  ∀ (s : State) (m : Nat), (∀ op, s.ctEntry op = defaultEntry op) → m ≤ 8 →
    let r := s.reader
    let sink : Space := if s.interleaved then .inst else .addr
    let stop := if s.interleaved then s.instLen else s.addrLen
    let start (q : Nat) := if s.interleaved then q else r.addrPos
    let address (q : Nat) := r.cache.decode (s.readByte sink) (start q) stop
      ((s.winSrcSize + r.produced : Nat) : Int) m
    let read (q e size a : Nat) : Reader :=
      { r with instPos := if s.interleaved then e else q,
               addrPos := if s.interleaved then r.addrPos else e,
               produced := r.produced + size, cache := r.cache.update a,
               deltas := r.deltas ++ [.copy size m a], last := .ok }
    (∀ n q a e, varintParse .w32 (s.readByte .inst) (r.instPos + 1) s.instLen = .ok n q →
      address q = .ok a e →
      exec (decodeOpcode (byte (19 + 16 * m))) s = .next { s with reader := read q e n a }) ∧
    (∀ k a e, 4 ≤ k → k ≤ 18 → address (r.instPos + 1) = .ok a e →
      exec (decodeOpcode (byte (19 + 16 * m + (k - 3)))) s =
        .next { s with reader := read (r.instPos + 1) e k a })

/-- Opcode bytes 163 to 255 of the default table, the compound ones: 163 + 12 m + 3 (a - 1) + (c - 4) is an
ADD of size a and a COPY of size c and mode m, for m of 0 to 5, a of 1 to 4, c of 4 to 6;
235 + 4 (m - 6) + (a - 1) an ADD of size a and a COPY of size 4 and mode m, for m of 6 to 8; 247 + m a COPY of
size 4 and mode m and an ADD of size 1, for m of 0 to 8 (30_encoding.md rules R95, R99, R100, R101, R102,
R103). -/
def Obligations.CompoundOpcodes : Prop :=
  ∀ (s : State) (op m a c addr e : Nat), (∀ n, s.ctEntry n = defaultEntry n) →
    let r := s.reader
    let q := r.instPos + 1
    let address (sink : Space) (start stop done : Nat) :=
      r.cache.decode (s.readByte sink) start stop ((s.winSrcSize + (r.produced + done) : Nat) : Int) m
    let after (inst data adr : Nat) (ds : List Delta) : State :=
      { s with reader :=
        { instPos := inst, dataPos := data, addrPos := adr, produced := r.produced + a + c,
          cache := r.cache.update addr, deltas := r.deltas ++ ds, last := .ok } }
    (1 ≤ a → a ≤ 4 →
      ((m ≤ 5 ∧ 4 ≤ c ∧ c ≤ 6 ∧ op = 163 + 12 * m + 3 * (a - 1) + (c - 4)) ∨
       (6 ≤ m ∧ m ≤ 8 ∧ c = 4 ∧ op = 235 + 4 * (m - 6) + (a - 1))) →
      (s.interleaved = false → r.dataPos + a ≤ s.dataLen →
        address .addr r.addrPos s.addrLen a = .ok addr e →
        exec (decodeOpcode (byte op)) s = .next (after q (r.dataPos + a) e
          [.add a (s.readBytes .data r.dataPos a), .copy c m addr])) ∧
      (s.interleaved = true → q + a ≤ s.instLen →
        address .inst (q + a) s.instLen a = .ok addr e →
        exec (decodeOpcode (byte op)) s = .next (after e r.dataPos r.addrPos
          [.add a (s.readBytes .inst q a), .copy c m addr]))) ∧
    (m ≤ 8 → a = 1 → c = 4 → op = 247 + m →
      (s.interleaved = false → address .addr r.addrPos s.addrLen 0 = .ok addr e →
        r.dataPos + 1 ≤ s.dataLen →
        exec (decodeOpcode (byte op)) s = .next (after q (r.dataPos + 1) e
          [.copy 4 m addr, .add 1 [s.readByte .data r.dataPos]])) ∧
      (s.interleaved = true → address .inst q s.instLen 0 = .ok addr e → e + 1 ≤ s.instLen →
        exec (decodeOpcode (byte op)) s = .next (after (e + 1) r.dataPos r.addrPos
          [.copy 4 m addr, .add 1 [s.readByte .inst e]])))

/-! ### Frames and invariants -/

/-- A command that stores nothing leaves every byte of every space as it was, and so does every command that
does not complete; a hardware reset and RESET alone make bytes unspecified (20_memory.md rules R60, R64,
R66, R70). -/
def Obligations.NonStoringInstructionsKeepMemory : Prop :=
  ∀ (i : Instr) (s t : State), exec i s = .next t → storesBytes i = false ∨ t.failed = true ∧ i ≠ .reset →
    ∀ sp a, t.readByte sp a = s.readByte sp a

/-- The parameters never change (00_scope.md rule R5; 10_state.md rule R35), and the dictionary domain changes
only at the commands that own it: the removal table and RH_READY at RH_INIT, the index at BH_INIT and
BH_ADD_THROUGH, the bytes of SRC at MEM_WRITE, all of it at a reset (10_state.md rule R22). -/
def Obligations.DictionaryChangesOnlyAtItsCommands : Prop :=
  ∀ s t : State, step s = .next t →
    t.params = s.params ∧
    ((∃ rest, s.inputs = .hardwareReset :: rest) ∨
     (∃ w rest, s.inputs = .command w :: rest ∧ opBits w = 0x01) ∨
     (((t.rhReady = s.rhReady ∧ t.rhRemove = s.rhRemove) ∨
        ∃ w rest, s.inputs = .command w :: rest ∧ opBits w = 0x20) ∧
      ((t.bhReady = s.bhReady ∧ t.srcSize = s.srcSize ∧ t.bhStartOffset = s.bhStartOffset) ∨
        ∃ w rest, s.inputs = .command w :: rest ∧ opBits w = 0x30) ∧
      ((t.bhHead = s.bhHead ∧ t.bhNext = s.bhNext ∧ t.bhLastBlock = s.bhLastBlock ∧
          t.bhLastEnd = s.bhLastEnd) ∨
        ∃ w rest, s.inputs = .command w :: rest ∧ (opBits w = 0x30 ∨ opBits w = 0x31)) ∧
      ((∀ a, t.readByte .src a = s.readByte .src a) ∨
        ∃ w rest, s.inputs = .command w :: rest ∧ opBits w = 0x06)))

/-- Every step keeps the memory in its canonical form, every byte within its space, and the list of changed
code-table entries in its own (20_memory.md rules R61, R65, R66). -/
def Obligations.StepKeepsMemory : Prop :=
  ∀ s t : State, s.RangeInv → s.MemoryInv → step s = .next t → t.MemoryInv

/-- Every step keeps the block index exact: once it is constructed its chains are the blocks of each bucket,
the newest first; and no step but a reset of the block changes a byte of an indexed block under it
(42_block_hash.md rules R150, R151, R152; 20_memory.md rule R68; 10_state.md rules R26, R28). The hardware
reset is an input of the model (log 8). -/
def Obligations.StepKeepsIndex : Prop :=
  ∀ s t : State, s.IndexInv → step s = .next t → t.IndexInv ∧
    ((∃ rest, s.inputs = .hardwareReset :: rest) ∨
     (∃ w rest, s.inputs = .command w :: rest ∧ opBits w = 0x01) ∨
     ∀ a : Nat, (a : Int) < (s.bhLastBlock + 1) * s.params.b → t.readByte .src a = s.readByte .src a)

/-- Every step keeps the registers within the ranges of the register map, the removal table right once it is
set, and the error registers in agreement with FAILED (10_state.md rules R25, R27, R32, R36;
41_rolling_hash.md rule R141). -/
def Obligations.StepKeepsRegisters : Prop :=
  ∀ s t : State, s.IndexInv → s.SerInv → s.RangeInv → s.TableInv → s.ErrorInv → step s = .next t →
    t.RangeInv ∧ t.TableInv ∧ t.ErrorInv

/-- No command suspends, blocks or stops: where the serializer's invariant holds, every step answers a next
state, and the invariant holds there; and while a session stays open neither the code table nor the cache
sizes change (45_serializer.md rule R225, points a, b, c and e; 44_code_table.md rule R200; 00_scope.md rule
R7). -/
def Obligations.EveryStepGoesOnAndKeepsTheSerializerInvariant : Prop :=
  ∀ s : State, s.SerInv → ∃ t, step s = .next t ∧ t.SerInv ∧
    (s.serState ≠ .uninit → t.serState ≠ .uninit → (∀ op, t.ctEntry op = s.ctEntry op) ∧
      t.cache.nearSize = s.cache.nearSize ∧ t.cache.sameSize = s.cache.sameSize)

/-- The invariants hold right after reset, for every choice of the parameters that rule R5 of 00_scope.md
allows. None of them asks anything of RH_REMOVE, BH_HEAD and BH_NEXT, which reset leaves unspecified (log 3);
that the empty window decodes to nothing is said with the model's reader (logs 9, 10). -/
def Obligations.ResetMeetsTheInvariants : Prop :=
  ∀ p : Params, p.wellFormed = true →
    (State.resetWith p).MemoryInv ∧ (State.resetWith p).IndexInv ∧ (State.resetWith p).TableInv ∧
    (State.resetWith p).RangeInv ∧ (State.resetWith p).SerInv ∧ (State.resetWith p).ErrorInv ∧
    (State.resetWith p).WindowReads []

/-! ### The tables of codes -/

/-- The numbers that words and registers show: the status codes, the cause codes and the status each cause is
reported with, the places of a response word's fields, the numbers of the serializer's states and of the
source modes (30_encoding.md rules R81, R82; 60_exceptions.md rule R261; 10_state.md rules R24, R34). -/
def Obligations.CodesOfTheTables : Prop :=
  [Status.ok, .endOfData, .error, .misuse, .illegal, .refused, .capacity].map Status.code =
    [0, 1, 2, 3, 4, 5, 6] ∧
  [Cause.varintOverflow, .addrHereNonpositive, .addrOutOfRange, .addrNearOverflow, .addrBadMode,
      .badCacheSizes, .invalidCodeTable].map (fun c => (c.code, c.status)) =
    [(1, .error), (2, .error), (3, .error), (4, .error), (5, .error), (6, .error), (7, .error)] ∧
  [Cause.notInitialized, .rangeRegression, .negativeValue, .badOperand, .badState, .pendingWindow,
      .srcImmutable].map (fun c => (c.code, c.status)) =
    [(16, .misuse), (17, .misuse), (18, .misuse), (19, .misuse), (20, .misuse), (21, .misuse),
      (22, .misuse)] ∧
  [Cause.illegalCommand, .capacity].map (fun c => (c.code, c.status)) =
    [(32, .illegal), (33, .capacity)] ∧
  (∀ r : Response, r.word.extractLsb' 0 4 = BitVec.ofNat 4 r.status.code ∧
    r.word.extractLsb' 4 60 = 0 ∧ r.word.extractLsb' 64 64 = r.r0 ∧ r.word.extractLsb' 128 64 = r.r1 ∧
    r.word.extractLsb' 192 64 = r.r2 ∧ r.word.extractLsb' 256 64 = r.r3) ∧
  [SerState.uninit, .ready, .inWindow].map SerState.code = [0, 1, 2] ∧
  [WinSource.none, .source, .target].map WinSource.code = [0, 1, 2]
end

