-- ==== Sys2Proof/Laws/Decode.lean ====
section
/-! SUPPORT. The fields of a command word, read back from a word put together (30_encoding.md rule R80). -/

namespace Sys2Proof

/-- Bit `k` of a command word put together. -/
theorem getLsbD_commandWord (op : Byte) (a0 a1 a2 a3 : Field) (k : Nat) :
    (commandWord op a0 a1 a2 a3).getLsbD k =
      if k < 64 then (if k < 8 then op.getLsbD k else false)
      else if k < 128 then a0.getLsbD (k - 64)
      else if k < 192 then a1.getLsbD (k - 128)
      else if k < 256 then a2.getLsbD (k - 192)
      else a3.getLsbD (k - 256) := by
  change BitVec.getLsbD (w := 64 + 64 + 64 + 64 + (56 + 8))
    (a3 ++ a2 ++ a1 ++ a0 ++ ((0 : BitVec 56) ++ op)) k = _
  simp only [BitVec.getLsbD_append]
  split_ifs <;> first | omega | simp only [Nat.sub_sub] | simp

@[simp] theorem opBits_commandWord (op : Byte) (a0 a1 a2 a3 : Field) :
    opBits (commandWord op a0 a1 a2 a3) = op := by
  apply BitVec.eq_of_getLsbD_eq
  intro i hi
  simp only [opBits, BitVec.getLsbD_extractLsb', getLsbD_commandWord]
  simp [hi, show i < 64 by omega]

@[simp] theorem rsvBits_commandWord (op : Byte) (a0 a1 a2 a3 : Field) :
    rsvBits (commandWord op a0 a1 a2 a3) = 0 := by
  apply BitVec.eq_of_getLsbD_eq
  intro i hi
  simp only [rsvBits, BitVec.getLsbD_extractLsb', getLsbD_commandWord]
  simp [show 8 + i < 64 by omega]

theorem lane_commandWord (op : Byte) (a0 a1 a2 a3 : Field) :
    lane (commandWord op a0 a1 a2 a3) 1 = a0 ∧ lane (commandWord op a0 a1 a2 a3) 2 = a1 ∧
    lane (commandWord op a0 a1 a2 a3) 3 = a2 ∧ lane (commandWord op a0 a1 a2 a3) 4 = a3 := by
  refine ⟨?_, ?_, ?_, ?_⟩ <;>
  · apply BitVec.eq_of_getLsbD_eq
    intro i hi
    simp only [lane, BitVec.getLsbD_extractLsb', getLsbD_commandWord]
    split_ifs <;> first | omega | simp [hi]

/-- A command word put together is well formed when its number is in the map of rule R83. -/
theorem wellFormed_commandWord {op : Byte} (h : opDefined op = true) (a0 a1 a2 a3 : Field) :
    (Encoded.command (commandWord op a0 a1 a2 a3)).wellFormed = true := by
  simp [Encoded.wellFormed, h]

/-- What the decoder makes of a command word put together: the command of its number over its lanes. -/
theorem decodeCommand_commandWord (op : Byte) (a0 a1 a2 a3 : Field) :
    decodeCommand (commandWord op a0 a1 a2 a3) =
      match commandOf op.toNat a0 a1 a2 a3 with
      | some i => .ok i
      | none => .error (.undefinedOpcode op.toNat) := by
  obtain ⟨h1, h2, h3, h4⟩ := lane_commandWord op a0 a1 a2 a3
  simp only [decodeCommand, rsvBits_commandWord, opBits_commandWord, h1, h2, h3, h4]
  refine (if_neg (by simp)).trans ?_
  cases commandOf op.toNat a0 a1 a2 a3 <;> rfl

end Sys2Proof
end

