-- ==== Sys2Proof/Laws/State.lean ====
section
/-! SUPPORT. One lemma per field per update of State: what each named update leaves of each field, so that no
proof unfolds a record update. What a memory space and its length become is in Laws/Memory.lean. -/

namespace Sys2Proof.Machine

/-! ### respond -/

@[simp] theorem State.respond_params (s : State) (r : Response) :
    (s.respond r).params = s.params := rfl

@[simp] theorem State.respond_failed (s : State) (r : Response) :
    (s.respond r).failed = s.failed := rfl

@[simp] theorem State.respond_rhReady (s : State) (r : Response) :
    (s.respond r).rhReady = s.rhReady := rfl

@[simp] theorem State.respond_bhReady (s : State) (r : Response) :
    (s.respond r).bhReady = s.bhReady := rfl

@[simp] theorem State.respond_ctValid (s : State) (r : Response) :
    (s.respond r).ctValid = s.ctValid := rfl

@[simp] theorem State.respond_serState (s : State) (r : Response) :
    (s.respond r).serState = s.serState := rfl

@[simp] theorem State.respond_winHasChecksum (s : State) (r : Response) :
    (s.respond r).winHasChecksum = s.winHasChecksum := rfl

@[simp] theorem State.respond_errCause (s : State) (r : Response) :
    (s.respond r).errCause = s.errCause := rfl

@[simp] theorem State.respond_errCmd (s : State) (r : Response) :
    (s.respond r).errCmd = s.errCmd := rfl

@[simp] theorem State.respond_errInfo (s : State) (r : Response) :
    (s.respond r).errInfo = s.errInfo := rfl

@[simp] theorem State.respond_srcSize (s : State) (r : Response) :
    (s.respond r).srcSize = s.srcSize := rfl

@[simp] theorem State.respond_bhStartOffset (s : State) (r : Response) :
    (s.respond r).bhStartOffset = s.bhStartOffset := rfl

@[simp] theorem State.respond_bhLastBlock (s : State) (r : Response) :
    (s.respond r).bhLastBlock = s.bhLastBlock := rfl

@[simp] theorem State.respond_bhLastEnd (s : State) (r : Response) :
    (s.respond r).bhLastEnd = s.bhLastEnd := rfl

@[simp] theorem State.respond_tgtSize (s : State) (r : Response) :
    (s.respond r).tgtSize = s.tgtSize := rfl

@[simp] theorem State.respond_tgtLo (s : State) (r : Response) :
    (s.respond r).tgtLo = s.tgtLo := rfl

@[simp] theorem State.respond_bmSrc (s : State) (r : Response) :
    (s.respond r).bmSrc = s.bmSrc := rfl

@[simp] theorem State.respond_bmTgt (s : State) (r : Response) :
    (s.respond r).bmTgt = s.bmTgt := rfl

@[simp] theorem State.respond_bmSize (s : State) (r : Response) :
    (s.respond r).bmSize = s.bmSize := rfl

@[simp] theorem State.respond_inCursor (s : State) (r : Response) :
    (s.respond r).inCursor = s.inCursor := rfl

@[simp] theorem State.respond_inLimit (s : State) (r : Response) :
    (s.respond r).inLimit = s.inLimit := rfl

@[simp] theorem State.respond_cache (s : State) (r : Response) :
    (s.respond r).cache = s.cache := rfl

@[simp] theorem State.respond_ctMaxMode (s : State) (r : Response) :
    (s.respond r).ctMaxMode = s.ctMaxMode := rfl

@[simp] theorem State.respond_ct (s : State) (r : Response) :
    (s.respond r).ct = s.ct := rfl

@[simp] theorem State.respond_interleaved (s : State) (r : Response) :
    (s.respond r).interleaved = s.interleaved := rfl

@[simp] theorem State.respond_checksumOn (s : State) (r : Response) :
    (s.respond r).checksumOn = s.checksumOn := rfl

@[simp] theorem State.respond_winSrcMode (s : State) (r : Response) :
    (s.respond r).winSrcMode = s.winSrcMode := rfl

@[simp] theorem State.respond_winSrcSize (s : State) (r : Response) :
    (s.respond r).winSrcSize = s.winSrcSize := rfl

@[simp] theorem State.respond_winSrcPos (s : State) (r : Response) :
    (s.respond r).winSrcPos = s.winSrcPos := rfl

@[simp] theorem State.respond_winTargetLen (s : State) (r : Response) :
    (s.respond r).winTargetLen = s.winTargetLen := rfl

@[simp] theorem State.respond_winChecksum (s : State) (r : Response) :
    (s.respond r).winChecksum = s.winChecksum := rfl

@[simp] theorem State.respond_lastOpcodeIndex (s : State) (r : Response) :
    (s.respond r).lastOpcodeIndex = s.lastOpcodeIndex := rfl

@[simp] theorem State.respond_dataLen (s : State) (r : Response) :
    (s.respond r).dataLen = s.dataLen := rfl

@[simp] theorem State.respond_instLen (s : State) (r : Response) :
    (s.respond r).instLen = s.instLen := rfl

@[simp] theorem State.respond_addrLen (s : State) (r : Response) :
    (s.respond r).addrLen = s.addrLen := rfl

@[simp] theorem State.respond_outLen (s : State) (r : Response) :
    (s.respond r).outLen = s.outLen := rfl

@[simp] theorem State.respond_rhRemove (s : State) (r : Response) :
    (s.respond r).rhRemove = s.rhRemove := rfl

@[simp] theorem State.respond_bhHead (s : State) (r : Response) :
    (s.respond r).bhHead = s.bhHead := rfl

@[simp] theorem State.respond_bhNext (s : State) (r : Response) :
    (s.respond r).bhNext = s.bhNext := rfl

@[simp] theorem State.respond_src (s : State) (r : Response) :
    (s.respond r).src = s.src := rfl

@[simp] theorem State.respond_tgt (s : State) (r : Response) :
    (s.respond r).tgt = s.tgt := rfl

@[simp] theorem State.respond_inp (s : State) (r : Response) :
    (s.respond r).inp = s.inp := rfl

@[simp] theorem State.respond_data (s : State) (r : Response) :
    (s.respond r).data = s.data := rfl

@[simp] theorem State.respond_inst (s : State) (r : Response) :
    (s.respond r).inst = s.inst := rfl

@[simp] theorem State.respond_addr (s : State) (r : Response) :
    (s.respond r).addr = s.addr := rfl

@[simp] theorem State.respond_out (s : State) (r : Response) :
    (s.respond r).out = s.out := rfl

@[simp] theorem State.respond_epoch (s : State) (r : Response) :
    (s.respond r).epoch = s.epoch := rfl

@[simp] theorem State.respond_inputs (s : State) (r : Response) :
    (s.respond r).inputs = s.inputs := rfl

@[simp] theorem State.respond_responses (s : State) (r : Response) :
    (s.respond r).responses = s.responses ++ [r] := rfl

@[simp] theorem State.respond_reader (s : State) (r : Response) :
    (s.respond r).reader = s.reader := rfl

/-! ### setMem -/

/-- A space replaced leaves all but the spaces. -/
theorem State.setMem_frame (s : State) (sp : Space) (m : Sparse Byte) :
    { s.setMem sp m with
      src := s.src, tgt := s.tgt, inp := s.inp, data := s.data, inst := s.inst, addr := s.addr, out := s.out } = s := by cases sp <;> rfl

@[simp] theorem State.setMem_params (s : State) (sp : Space) (m : Sparse Byte) :
    (s.setMem sp m).params = s.params := (congrArg State.params (State.setMem_frame s sp m) :)

@[simp] theorem State.setMem_failed (s : State) (sp : Space) (m : Sparse Byte) :
    (s.setMem sp m).failed = s.failed := (congrArg State.failed (State.setMem_frame s sp m) :)

@[simp] theorem State.setMem_rhReady (s : State) (sp : Space) (m : Sparse Byte) :
    (s.setMem sp m).rhReady = s.rhReady := (congrArg State.rhReady (State.setMem_frame s sp m) :)

@[simp] theorem State.setMem_bhReady (s : State) (sp : Space) (m : Sparse Byte) :
    (s.setMem sp m).bhReady = s.bhReady := (congrArg State.bhReady (State.setMem_frame s sp m) :)

@[simp] theorem State.setMem_ctValid (s : State) (sp : Space) (m : Sparse Byte) :
    (s.setMem sp m).ctValid = s.ctValid := (congrArg State.ctValid (State.setMem_frame s sp m) :)

@[simp] theorem State.setMem_serState (s : State) (sp : Space) (m : Sparse Byte) :
    (s.setMem sp m).serState = s.serState := (congrArg State.serState (State.setMem_frame s sp m) :)

@[simp] theorem State.setMem_winHasChecksum (s : State) (sp : Space) (m : Sparse Byte) :
    (s.setMem sp m).winHasChecksum = s.winHasChecksum := (congrArg State.winHasChecksum (State.setMem_frame s sp m) :)

@[simp] theorem State.setMem_errCause (s : State) (sp : Space) (m : Sparse Byte) :
    (s.setMem sp m).errCause = s.errCause := (congrArg State.errCause (State.setMem_frame s sp m) :)

@[simp] theorem State.setMem_errCmd (s : State) (sp : Space) (m : Sparse Byte) :
    (s.setMem sp m).errCmd = s.errCmd := (congrArg State.errCmd (State.setMem_frame s sp m) :)

@[simp] theorem State.setMem_errInfo (s : State) (sp : Space) (m : Sparse Byte) :
    (s.setMem sp m).errInfo = s.errInfo := (congrArg State.errInfo (State.setMem_frame s sp m) :)

@[simp] theorem State.setMem_srcSize (s : State) (sp : Space) (m : Sparse Byte) :
    (s.setMem sp m).srcSize = s.srcSize := (congrArg State.srcSize (State.setMem_frame s sp m) :)

@[simp] theorem State.setMem_bhStartOffset (s : State) (sp : Space) (m : Sparse Byte) :
    (s.setMem sp m).bhStartOffset = s.bhStartOffset := (congrArg State.bhStartOffset (State.setMem_frame s sp m) :)

@[simp] theorem State.setMem_bhLastBlock (s : State) (sp : Space) (m : Sparse Byte) :
    (s.setMem sp m).bhLastBlock = s.bhLastBlock := (congrArg State.bhLastBlock (State.setMem_frame s sp m) :)

@[simp] theorem State.setMem_bhLastEnd (s : State) (sp : Space) (m : Sparse Byte) :
    (s.setMem sp m).bhLastEnd = s.bhLastEnd := (congrArg State.bhLastEnd (State.setMem_frame s sp m) :)

@[simp] theorem State.setMem_tgtSize (s : State) (sp : Space) (m : Sparse Byte) :
    (s.setMem sp m).tgtSize = s.tgtSize := (congrArg State.tgtSize (State.setMem_frame s sp m) :)

@[simp] theorem State.setMem_tgtLo (s : State) (sp : Space) (m : Sparse Byte) :
    (s.setMem sp m).tgtLo = s.tgtLo := (congrArg State.tgtLo (State.setMem_frame s sp m) :)

@[simp] theorem State.setMem_bmSrc (s : State) (sp : Space) (m : Sparse Byte) :
    (s.setMem sp m).bmSrc = s.bmSrc := (congrArg State.bmSrc (State.setMem_frame s sp m) :)

@[simp] theorem State.setMem_bmTgt (s : State) (sp : Space) (m : Sparse Byte) :
    (s.setMem sp m).bmTgt = s.bmTgt := (congrArg State.bmTgt (State.setMem_frame s sp m) :)

@[simp] theorem State.setMem_bmSize (s : State) (sp : Space) (m : Sparse Byte) :
    (s.setMem sp m).bmSize = s.bmSize := (congrArg State.bmSize (State.setMem_frame s sp m) :)

@[simp] theorem State.setMem_inCursor (s : State) (sp : Space) (m : Sparse Byte) :
    (s.setMem sp m).inCursor = s.inCursor := (congrArg State.inCursor (State.setMem_frame s sp m) :)

@[simp] theorem State.setMem_inLimit (s : State) (sp : Space) (m : Sparse Byte) :
    (s.setMem sp m).inLimit = s.inLimit := (congrArg State.inLimit (State.setMem_frame s sp m) :)

@[simp] theorem State.setMem_cache (s : State) (sp : Space) (m : Sparse Byte) :
    (s.setMem sp m).cache = s.cache := (congrArg State.cache (State.setMem_frame s sp m) :)

@[simp] theorem State.setMem_ctMaxMode (s : State) (sp : Space) (m : Sparse Byte) :
    (s.setMem sp m).ctMaxMode = s.ctMaxMode := (congrArg State.ctMaxMode (State.setMem_frame s sp m) :)

@[simp] theorem State.setMem_ct (s : State) (sp : Space) (m : Sparse Byte) :
    (s.setMem sp m).ct = s.ct := (congrArg State.ct (State.setMem_frame s sp m) :)

@[simp] theorem State.setMem_interleaved (s : State) (sp : Space) (m : Sparse Byte) :
    (s.setMem sp m).interleaved = s.interleaved := (congrArg State.interleaved (State.setMem_frame s sp m) :)

@[simp] theorem State.setMem_checksumOn (s : State) (sp : Space) (m : Sparse Byte) :
    (s.setMem sp m).checksumOn = s.checksumOn := (congrArg State.checksumOn (State.setMem_frame s sp m) :)

@[simp] theorem State.setMem_winSrcMode (s : State) (sp : Space) (m : Sparse Byte) :
    (s.setMem sp m).winSrcMode = s.winSrcMode := (congrArg State.winSrcMode (State.setMem_frame s sp m) :)

@[simp] theorem State.setMem_winSrcSize (s : State) (sp : Space) (m : Sparse Byte) :
    (s.setMem sp m).winSrcSize = s.winSrcSize := (congrArg State.winSrcSize (State.setMem_frame s sp m) :)

@[simp] theorem State.setMem_winSrcPos (s : State) (sp : Space) (m : Sparse Byte) :
    (s.setMem sp m).winSrcPos = s.winSrcPos := (congrArg State.winSrcPos (State.setMem_frame s sp m) :)

@[simp] theorem State.setMem_winTargetLen (s : State) (sp : Space) (m : Sparse Byte) :
    (s.setMem sp m).winTargetLen = s.winTargetLen := (congrArg State.winTargetLen (State.setMem_frame s sp m) :)

@[simp] theorem State.setMem_winChecksum (s : State) (sp : Space) (m : Sparse Byte) :
    (s.setMem sp m).winChecksum = s.winChecksum := (congrArg State.winChecksum (State.setMem_frame s sp m) :)

@[simp] theorem State.setMem_lastOpcodeIndex (s : State) (sp : Space) (m : Sparse Byte) :
    (s.setMem sp m).lastOpcodeIndex = s.lastOpcodeIndex := (congrArg State.lastOpcodeIndex (State.setMem_frame s sp m) :)

@[simp] theorem State.setMem_dataLen (s : State) (sp : Space) (m : Sparse Byte) :
    (s.setMem sp m).dataLen = s.dataLen := (congrArg State.dataLen (State.setMem_frame s sp m) :)

@[simp] theorem State.setMem_instLen (s : State) (sp : Space) (m : Sparse Byte) :
    (s.setMem sp m).instLen = s.instLen := (congrArg State.instLen (State.setMem_frame s sp m) :)

@[simp] theorem State.setMem_addrLen (s : State) (sp : Space) (m : Sparse Byte) :
    (s.setMem sp m).addrLen = s.addrLen := (congrArg State.addrLen (State.setMem_frame s sp m) :)

@[simp] theorem State.setMem_outLen (s : State) (sp : Space) (m : Sparse Byte) :
    (s.setMem sp m).outLen = s.outLen := (congrArg State.outLen (State.setMem_frame s sp m) :)

@[simp] theorem State.setMem_rhRemove (s : State) (sp : Space) (m : Sparse Byte) :
    (s.setMem sp m).rhRemove = s.rhRemove := (congrArg State.rhRemove (State.setMem_frame s sp m) :)

@[simp] theorem State.setMem_bhHead (s : State) (sp : Space) (m : Sparse Byte) :
    (s.setMem sp m).bhHead = s.bhHead := (congrArg State.bhHead (State.setMem_frame s sp m) :)

@[simp] theorem State.setMem_bhNext (s : State) (sp : Space) (m : Sparse Byte) :
    (s.setMem sp m).bhNext = s.bhNext := (congrArg State.bhNext (State.setMem_frame s sp m) :)

@[simp] theorem State.setMem_epoch (s : State) (sp : Space) (m : Sparse Byte) :
    (s.setMem sp m).epoch = s.epoch := (congrArg State.epoch (State.setMem_frame s sp m) :)

@[simp] theorem State.setMem_inputs (s : State) (sp : Space) (m : Sparse Byte) :
    (s.setMem sp m).inputs = s.inputs := (congrArg State.inputs (State.setMem_frame s sp m) :)

@[simp] theorem State.setMem_responses (s : State) (sp : Space) (m : Sparse Byte) :
    (s.setMem sp m).responses = s.responses := (congrArg State.responses (State.setMem_frame s sp m) :)

@[simp] theorem State.setMem_reader (s : State) (sp : Space) (m : Sparse Byte) :
    (s.setMem sp m).reader = s.reader := (congrArg State.reader (State.setMem_frame s sp m) :)

/-! ### writeByte -/

/-- A byte written leaves all but the spaces. -/
theorem State.writeByte_frame (s : State) (sp : Space) (a : Nat) (v : Byte) :
    { s.writeByte sp a v with
      src := s.src, tgt := s.tgt, inp := s.inp, data := s.data, inst := s.inst, addr := s.addr, out := s.out } = s := State.setMem_frame s sp _

@[simp] theorem State.writeByte_params (s : State) (sp : Space) (a : Nat) (v : Byte) :
    (s.writeByte sp a v).params = s.params := (congrArg State.params (State.writeByte_frame s sp a v) :)

@[simp] theorem State.writeByte_failed (s : State) (sp : Space) (a : Nat) (v : Byte) :
    (s.writeByte sp a v).failed = s.failed := (congrArg State.failed (State.writeByte_frame s sp a v) :)

@[simp] theorem State.writeByte_rhReady (s : State) (sp : Space) (a : Nat) (v : Byte) :
    (s.writeByte sp a v).rhReady = s.rhReady := (congrArg State.rhReady (State.writeByte_frame s sp a v) :)

@[simp] theorem State.writeByte_bhReady (s : State) (sp : Space) (a : Nat) (v : Byte) :
    (s.writeByte sp a v).bhReady = s.bhReady := (congrArg State.bhReady (State.writeByte_frame s sp a v) :)

@[simp] theorem State.writeByte_ctValid (s : State) (sp : Space) (a : Nat) (v : Byte) :
    (s.writeByte sp a v).ctValid = s.ctValid := (congrArg State.ctValid (State.writeByte_frame s sp a v) :)

@[simp] theorem State.writeByte_serState (s : State) (sp : Space) (a : Nat) (v : Byte) :
    (s.writeByte sp a v).serState = s.serState := (congrArg State.serState (State.writeByte_frame s sp a v) :)

@[simp] theorem State.writeByte_winHasChecksum (s : State) (sp : Space) (a : Nat) (v : Byte) :
    (s.writeByte sp a v).winHasChecksum = s.winHasChecksum := (congrArg State.winHasChecksum (State.writeByte_frame s sp a v) :)

@[simp] theorem State.writeByte_errCause (s : State) (sp : Space) (a : Nat) (v : Byte) :
    (s.writeByte sp a v).errCause = s.errCause := (congrArg State.errCause (State.writeByte_frame s sp a v) :)

@[simp] theorem State.writeByte_errCmd (s : State) (sp : Space) (a : Nat) (v : Byte) :
    (s.writeByte sp a v).errCmd = s.errCmd := (congrArg State.errCmd (State.writeByte_frame s sp a v) :)

@[simp] theorem State.writeByte_errInfo (s : State) (sp : Space) (a : Nat) (v : Byte) :
    (s.writeByte sp a v).errInfo = s.errInfo := (congrArg State.errInfo (State.writeByte_frame s sp a v) :)

@[simp] theorem State.writeByte_srcSize (s : State) (sp : Space) (a : Nat) (v : Byte) :
    (s.writeByte sp a v).srcSize = s.srcSize := (congrArg State.srcSize (State.writeByte_frame s sp a v) :)

@[simp] theorem State.writeByte_bhStartOffset (s : State) (sp : Space) (a : Nat) (v : Byte) :
    (s.writeByte sp a v).bhStartOffset = s.bhStartOffset := (congrArg State.bhStartOffset (State.writeByte_frame s sp a v) :)

@[simp] theorem State.writeByte_bhLastBlock (s : State) (sp : Space) (a : Nat) (v : Byte) :
    (s.writeByte sp a v).bhLastBlock = s.bhLastBlock := (congrArg State.bhLastBlock (State.writeByte_frame s sp a v) :)

@[simp] theorem State.writeByte_bhLastEnd (s : State) (sp : Space) (a : Nat) (v : Byte) :
    (s.writeByte sp a v).bhLastEnd = s.bhLastEnd := (congrArg State.bhLastEnd (State.writeByte_frame s sp a v) :)

@[simp] theorem State.writeByte_tgtSize (s : State) (sp : Space) (a : Nat) (v : Byte) :
    (s.writeByte sp a v).tgtSize = s.tgtSize := (congrArg State.tgtSize (State.writeByte_frame s sp a v) :)

@[simp] theorem State.writeByte_tgtLo (s : State) (sp : Space) (a : Nat) (v : Byte) :
    (s.writeByte sp a v).tgtLo = s.tgtLo := (congrArg State.tgtLo (State.writeByte_frame s sp a v) :)

@[simp] theorem State.writeByte_bmSrc (s : State) (sp : Space) (a : Nat) (v : Byte) :
    (s.writeByte sp a v).bmSrc = s.bmSrc := (congrArg State.bmSrc (State.writeByte_frame s sp a v) :)

@[simp] theorem State.writeByte_bmTgt (s : State) (sp : Space) (a : Nat) (v : Byte) :
    (s.writeByte sp a v).bmTgt = s.bmTgt := (congrArg State.bmTgt (State.writeByte_frame s sp a v) :)

@[simp] theorem State.writeByte_bmSize (s : State) (sp : Space) (a : Nat) (v : Byte) :
    (s.writeByte sp a v).bmSize = s.bmSize := (congrArg State.bmSize (State.writeByte_frame s sp a v) :)

@[simp] theorem State.writeByte_inCursor (s : State) (sp : Space) (a : Nat) (v : Byte) :
    (s.writeByte sp a v).inCursor = s.inCursor := (congrArg State.inCursor (State.writeByte_frame s sp a v) :)

@[simp] theorem State.writeByte_inLimit (s : State) (sp : Space) (a : Nat) (v : Byte) :
    (s.writeByte sp a v).inLimit = s.inLimit := (congrArg State.inLimit (State.writeByte_frame s sp a v) :)

@[simp] theorem State.writeByte_cache (s : State) (sp : Space) (a : Nat) (v : Byte) :
    (s.writeByte sp a v).cache = s.cache := (congrArg State.cache (State.writeByte_frame s sp a v) :)

@[simp] theorem State.writeByte_ctMaxMode (s : State) (sp : Space) (a : Nat) (v : Byte) :
    (s.writeByte sp a v).ctMaxMode = s.ctMaxMode := (congrArg State.ctMaxMode (State.writeByte_frame s sp a v) :)

@[simp] theorem State.writeByte_ct (s : State) (sp : Space) (a : Nat) (v : Byte) :
    (s.writeByte sp a v).ct = s.ct := (congrArg State.ct (State.writeByte_frame s sp a v) :)

@[simp] theorem State.writeByte_interleaved (s : State) (sp : Space) (a : Nat) (v : Byte) :
    (s.writeByte sp a v).interleaved = s.interleaved := (congrArg State.interleaved (State.writeByte_frame s sp a v) :)

@[simp] theorem State.writeByte_checksumOn (s : State) (sp : Space) (a : Nat) (v : Byte) :
    (s.writeByte sp a v).checksumOn = s.checksumOn := (congrArg State.checksumOn (State.writeByte_frame s sp a v) :)

@[simp] theorem State.writeByte_winSrcMode (s : State) (sp : Space) (a : Nat) (v : Byte) :
    (s.writeByte sp a v).winSrcMode = s.winSrcMode := (congrArg State.winSrcMode (State.writeByte_frame s sp a v) :)

@[simp] theorem State.writeByte_winSrcSize (s : State) (sp : Space) (a : Nat) (v : Byte) :
    (s.writeByte sp a v).winSrcSize = s.winSrcSize := (congrArg State.winSrcSize (State.writeByte_frame s sp a v) :)

@[simp] theorem State.writeByte_winSrcPos (s : State) (sp : Space) (a : Nat) (v : Byte) :
    (s.writeByte sp a v).winSrcPos = s.winSrcPos := (congrArg State.winSrcPos (State.writeByte_frame s sp a v) :)

@[simp] theorem State.writeByte_winTargetLen (s : State) (sp : Space) (a : Nat) (v : Byte) :
    (s.writeByte sp a v).winTargetLen = s.winTargetLen := (congrArg State.winTargetLen (State.writeByte_frame s sp a v) :)

@[simp] theorem State.writeByte_winChecksum (s : State) (sp : Space) (a : Nat) (v : Byte) :
    (s.writeByte sp a v).winChecksum = s.winChecksum := (congrArg State.winChecksum (State.writeByte_frame s sp a v) :)

@[simp] theorem State.writeByte_lastOpcodeIndex (s : State) (sp : Space) (a : Nat) (v : Byte) :
    (s.writeByte sp a v).lastOpcodeIndex = s.lastOpcodeIndex := (congrArg State.lastOpcodeIndex (State.writeByte_frame s sp a v) :)

@[simp] theorem State.writeByte_dataLen (s : State) (sp : Space) (a : Nat) (v : Byte) :
    (s.writeByte sp a v).dataLen = s.dataLen := (congrArg State.dataLen (State.writeByte_frame s sp a v) :)

@[simp] theorem State.writeByte_instLen (s : State) (sp : Space) (a : Nat) (v : Byte) :
    (s.writeByte sp a v).instLen = s.instLen := (congrArg State.instLen (State.writeByte_frame s sp a v) :)

@[simp] theorem State.writeByte_addrLen (s : State) (sp : Space) (a : Nat) (v : Byte) :
    (s.writeByte sp a v).addrLen = s.addrLen := (congrArg State.addrLen (State.writeByte_frame s sp a v) :)

@[simp] theorem State.writeByte_outLen (s : State) (sp : Space) (a : Nat) (v : Byte) :
    (s.writeByte sp a v).outLen = s.outLen := (congrArg State.outLen (State.writeByte_frame s sp a v) :)

@[simp] theorem State.writeByte_rhRemove (s : State) (sp : Space) (a : Nat) (v : Byte) :
    (s.writeByte sp a v).rhRemove = s.rhRemove := (congrArg State.rhRemove (State.writeByte_frame s sp a v) :)

@[simp] theorem State.writeByte_bhHead (s : State) (sp : Space) (a : Nat) (v : Byte) :
    (s.writeByte sp a v).bhHead = s.bhHead := (congrArg State.bhHead (State.writeByte_frame s sp a v) :)

@[simp] theorem State.writeByte_bhNext (s : State) (sp : Space) (a : Nat) (v : Byte) :
    (s.writeByte sp a v).bhNext = s.bhNext := (congrArg State.bhNext (State.writeByte_frame s sp a v) :)

@[simp] theorem State.writeByte_epoch (s : State) (sp : Space) (a : Nat) (v : Byte) :
    (s.writeByte sp a v).epoch = s.epoch := (congrArg State.epoch (State.writeByte_frame s sp a v) :)

@[simp] theorem State.writeByte_inputs (s : State) (sp : Space) (a : Nat) (v : Byte) :
    (s.writeByte sp a v).inputs = s.inputs := (congrArg State.inputs (State.writeByte_frame s sp a v) :)

@[simp] theorem State.writeByte_responses (s : State) (sp : Space) (a : Nat) (v : Byte) :
    (s.writeByte sp a v).responses = s.responses := (congrArg State.responses (State.writeByte_frame s sp a v) :)

@[simp] theorem State.writeByte_reader (s : State) (sp : Space) (a : Nat) (v : Byte) :
    (s.writeByte sp a v).reader = s.reader := (congrArg State.reader (State.writeByte_frame s sp a v) :)

/-! ### writeBytes -/

/-- Bytes written leave all but the spaces. -/
theorem State.writeBytes_frame (s : State) (sp : Space) (a : Nat) (bs : List Byte) :
    { s.writeBytes sp a bs with
      src := s.src, tgt := s.tgt, inp := s.inp, data := s.data, inst := s.inst, addr := s.addr, out := s.out } = s := by
  induction bs generalizing s a with
  | nil => rfl
  | cons v rest ih =>
    refine Eq.trans ?_ (State.writeByte_frame s sp a v)
    exact congrArg (fun t : State => { t with
      src := s.src, tgt := s.tgt, inp := s.inp, data := s.data, inst := s.inst, addr := s.addr,
      out := s.out }) (ih (s.writeByte sp a v) (a + 1))

@[simp] theorem State.writeBytes_params (s : State) (sp : Space) (a : Nat) (bs : List Byte) :
    (s.writeBytes sp a bs).params = s.params := (congrArg State.params (State.writeBytes_frame s sp a bs) :)

@[simp] theorem State.writeBytes_failed (s : State) (sp : Space) (a : Nat) (bs : List Byte) :
    (s.writeBytes sp a bs).failed = s.failed := (congrArg State.failed (State.writeBytes_frame s sp a bs) :)

@[simp] theorem State.writeBytes_rhReady (s : State) (sp : Space) (a : Nat) (bs : List Byte) :
    (s.writeBytes sp a bs).rhReady = s.rhReady := (congrArg State.rhReady (State.writeBytes_frame s sp a bs) :)

@[simp] theorem State.writeBytes_bhReady (s : State) (sp : Space) (a : Nat) (bs : List Byte) :
    (s.writeBytes sp a bs).bhReady = s.bhReady := (congrArg State.bhReady (State.writeBytes_frame s sp a bs) :)

@[simp] theorem State.writeBytes_ctValid (s : State) (sp : Space) (a : Nat) (bs : List Byte) :
    (s.writeBytes sp a bs).ctValid = s.ctValid := (congrArg State.ctValid (State.writeBytes_frame s sp a bs) :)

@[simp] theorem State.writeBytes_serState (s : State) (sp : Space) (a : Nat) (bs : List Byte) :
    (s.writeBytes sp a bs).serState = s.serState := (congrArg State.serState (State.writeBytes_frame s sp a bs) :)

@[simp] theorem State.writeBytes_winHasChecksum (s : State) (sp : Space) (a : Nat) (bs : List Byte) :
    (s.writeBytes sp a bs).winHasChecksum = s.winHasChecksum := (congrArg State.winHasChecksum (State.writeBytes_frame s sp a bs) :)

@[simp] theorem State.writeBytes_errCause (s : State) (sp : Space) (a : Nat) (bs : List Byte) :
    (s.writeBytes sp a bs).errCause = s.errCause := (congrArg State.errCause (State.writeBytes_frame s sp a bs) :)

@[simp] theorem State.writeBytes_errCmd (s : State) (sp : Space) (a : Nat) (bs : List Byte) :
    (s.writeBytes sp a bs).errCmd = s.errCmd := (congrArg State.errCmd (State.writeBytes_frame s sp a bs) :)

@[simp] theorem State.writeBytes_errInfo (s : State) (sp : Space) (a : Nat) (bs : List Byte) :
    (s.writeBytes sp a bs).errInfo = s.errInfo := (congrArg State.errInfo (State.writeBytes_frame s sp a bs) :)

@[simp] theorem State.writeBytes_srcSize (s : State) (sp : Space) (a : Nat) (bs : List Byte) :
    (s.writeBytes sp a bs).srcSize = s.srcSize := (congrArg State.srcSize (State.writeBytes_frame s sp a bs) :)

@[simp] theorem State.writeBytes_bhStartOffset (s : State) (sp : Space) (a : Nat) (bs : List Byte) :
    (s.writeBytes sp a bs).bhStartOffset = s.bhStartOffset := (congrArg State.bhStartOffset (State.writeBytes_frame s sp a bs) :)

@[simp] theorem State.writeBytes_bhLastBlock (s : State) (sp : Space) (a : Nat) (bs : List Byte) :
    (s.writeBytes sp a bs).bhLastBlock = s.bhLastBlock := (congrArg State.bhLastBlock (State.writeBytes_frame s sp a bs) :)

@[simp] theorem State.writeBytes_bhLastEnd (s : State) (sp : Space) (a : Nat) (bs : List Byte) :
    (s.writeBytes sp a bs).bhLastEnd = s.bhLastEnd := (congrArg State.bhLastEnd (State.writeBytes_frame s sp a bs) :)

@[simp] theorem State.writeBytes_tgtSize (s : State) (sp : Space) (a : Nat) (bs : List Byte) :
    (s.writeBytes sp a bs).tgtSize = s.tgtSize := (congrArg State.tgtSize (State.writeBytes_frame s sp a bs) :)

@[simp] theorem State.writeBytes_tgtLo (s : State) (sp : Space) (a : Nat) (bs : List Byte) :
    (s.writeBytes sp a bs).tgtLo = s.tgtLo := (congrArg State.tgtLo (State.writeBytes_frame s sp a bs) :)

@[simp] theorem State.writeBytes_bmSrc (s : State) (sp : Space) (a : Nat) (bs : List Byte) :
    (s.writeBytes sp a bs).bmSrc = s.bmSrc := (congrArg State.bmSrc (State.writeBytes_frame s sp a bs) :)

@[simp] theorem State.writeBytes_bmTgt (s : State) (sp : Space) (a : Nat) (bs : List Byte) :
    (s.writeBytes sp a bs).bmTgt = s.bmTgt := (congrArg State.bmTgt (State.writeBytes_frame s sp a bs) :)

@[simp] theorem State.writeBytes_bmSize (s : State) (sp : Space) (a : Nat) (bs : List Byte) :
    (s.writeBytes sp a bs).bmSize = s.bmSize := (congrArg State.bmSize (State.writeBytes_frame s sp a bs) :)

@[simp] theorem State.writeBytes_inCursor (s : State) (sp : Space) (a : Nat) (bs : List Byte) :
    (s.writeBytes sp a bs).inCursor = s.inCursor := (congrArg State.inCursor (State.writeBytes_frame s sp a bs) :)

@[simp] theorem State.writeBytes_inLimit (s : State) (sp : Space) (a : Nat) (bs : List Byte) :
    (s.writeBytes sp a bs).inLimit = s.inLimit := (congrArg State.inLimit (State.writeBytes_frame s sp a bs) :)

@[simp] theorem State.writeBytes_cache (s : State) (sp : Space) (a : Nat) (bs : List Byte) :
    (s.writeBytes sp a bs).cache = s.cache := (congrArg State.cache (State.writeBytes_frame s sp a bs) :)

@[simp] theorem State.writeBytes_ctMaxMode (s : State) (sp : Space) (a : Nat) (bs : List Byte) :
    (s.writeBytes sp a bs).ctMaxMode = s.ctMaxMode := (congrArg State.ctMaxMode (State.writeBytes_frame s sp a bs) :)

@[simp] theorem State.writeBytes_ct (s : State) (sp : Space) (a : Nat) (bs : List Byte) :
    (s.writeBytes sp a bs).ct = s.ct := (congrArg State.ct (State.writeBytes_frame s sp a bs) :)

@[simp] theorem State.writeBytes_interleaved (s : State) (sp : Space) (a : Nat) (bs : List Byte) :
    (s.writeBytes sp a bs).interleaved = s.interleaved := (congrArg State.interleaved (State.writeBytes_frame s sp a bs) :)

@[simp] theorem State.writeBytes_checksumOn (s : State) (sp : Space) (a : Nat) (bs : List Byte) :
    (s.writeBytes sp a bs).checksumOn = s.checksumOn := (congrArg State.checksumOn (State.writeBytes_frame s sp a bs) :)

@[simp] theorem State.writeBytes_winSrcMode (s : State) (sp : Space) (a : Nat) (bs : List Byte) :
    (s.writeBytes sp a bs).winSrcMode = s.winSrcMode := (congrArg State.winSrcMode (State.writeBytes_frame s sp a bs) :)

@[simp] theorem State.writeBytes_winSrcSize (s : State) (sp : Space) (a : Nat) (bs : List Byte) :
    (s.writeBytes sp a bs).winSrcSize = s.winSrcSize := (congrArg State.winSrcSize (State.writeBytes_frame s sp a bs) :)

@[simp] theorem State.writeBytes_winSrcPos (s : State) (sp : Space) (a : Nat) (bs : List Byte) :
    (s.writeBytes sp a bs).winSrcPos = s.winSrcPos := (congrArg State.winSrcPos (State.writeBytes_frame s sp a bs) :)

@[simp] theorem State.writeBytes_winTargetLen (s : State) (sp : Space) (a : Nat) (bs : List Byte) :
    (s.writeBytes sp a bs).winTargetLen = s.winTargetLen := (congrArg State.winTargetLen (State.writeBytes_frame s sp a bs) :)

@[simp] theorem State.writeBytes_winChecksum (s : State) (sp : Space) (a : Nat) (bs : List Byte) :
    (s.writeBytes sp a bs).winChecksum = s.winChecksum := (congrArg State.winChecksum (State.writeBytes_frame s sp a bs) :)

@[simp] theorem State.writeBytes_lastOpcodeIndex (s : State) (sp : Space) (a : Nat) (bs : List Byte) :
    (s.writeBytes sp a bs).lastOpcodeIndex = s.lastOpcodeIndex := (congrArg State.lastOpcodeIndex (State.writeBytes_frame s sp a bs) :)

@[simp] theorem State.writeBytes_dataLen (s : State) (sp : Space) (a : Nat) (bs : List Byte) :
    (s.writeBytes sp a bs).dataLen = s.dataLen := (congrArg State.dataLen (State.writeBytes_frame s sp a bs) :)

@[simp] theorem State.writeBytes_instLen (s : State) (sp : Space) (a : Nat) (bs : List Byte) :
    (s.writeBytes sp a bs).instLen = s.instLen := (congrArg State.instLen (State.writeBytes_frame s sp a bs) :)

@[simp] theorem State.writeBytes_addrLen (s : State) (sp : Space) (a : Nat) (bs : List Byte) :
    (s.writeBytes sp a bs).addrLen = s.addrLen := (congrArg State.addrLen (State.writeBytes_frame s sp a bs) :)

@[simp] theorem State.writeBytes_outLen (s : State) (sp : Space) (a : Nat) (bs : List Byte) :
    (s.writeBytes sp a bs).outLen = s.outLen := (congrArg State.outLen (State.writeBytes_frame s sp a bs) :)

@[simp] theorem State.writeBytes_rhRemove (s : State) (sp : Space) (a : Nat) (bs : List Byte) :
    (s.writeBytes sp a bs).rhRemove = s.rhRemove := (congrArg State.rhRemove (State.writeBytes_frame s sp a bs) :)

@[simp] theorem State.writeBytes_bhHead (s : State) (sp : Space) (a : Nat) (bs : List Byte) :
    (s.writeBytes sp a bs).bhHead = s.bhHead := (congrArg State.bhHead (State.writeBytes_frame s sp a bs) :)

@[simp] theorem State.writeBytes_bhNext (s : State) (sp : Space) (a : Nat) (bs : List Byte) :
    (s.writeBytes sp a bs).bhNext = s.bhNext := (congrArg State.bhNext (State.writeBytes_frame s sp a bs) :)

@[simp] theorem State.writeBytes_epoch (s : State) (sp : Space) (a : Nat) (bs : List Byte) :
    (s.writeBytes sp a bs).epoch = s.epoch := (congrArg State.epoch (State.writeBytes_frame s sp a bs) :)

@[simp] theorem State.writeBytes_inputs (s : State) (sp : Space) (a : Nat) (bs : List Byte) :
    (s.writeBytes sp a bs).inputs = s.inputs := (congrArg State.inputs (State.writeBytes_frame s sp a bs) :)

@[simp] theorem State.writeBytes_responses (s : State) (sp : Space) (a : Nat) (bs : List Byte) :
    (s.writeBytes sp a bs).responses = s.responses := (congrArg State.responses (State.writeBytes_frame s sp a bs) :)

@[simp] theorem State.writeBytes_reader (s : State) (sp : Space) (a : Nat) (bs : List Byte) :
    (s.writeBytes sp a bs).reader = s.reader := (congrArg State.reader (State.writeBytes_frame s sp a bs) :)

/-! ### setLen -/

/-- A length set leaves all but the lengths. -/
theorem State.setLen_frame (s : State) (sp : Space) (n : Nat) :
    { s.setLen sp n with
      dataLen := s.dataLen, instLen := s.instLen, addrLen := s.addrLen, outLen := s.outLen } = s := by cases sp <;> rfl

@[simp] theorem State.setLen_params (s : State) (sp : Space) (n : Nat) :
    (s.setLen sp n).params = s.params := (congrArg State.params (State.setLen_frame s sp n) :)

@[simp] theorem State.setLen_failed (s : State) (sp : Space) (n : Nat) :
    (s.setLen sp n).failed = s.failed := (congrArg State.failed (State.setLen_frame s sp n) :)

@[simp] theorem State.setLen_rhReady (s : State) (sp : Space) (n : Nat) :
    (s.setLen sp n).rhReady = s.rhReady := (congrArg State.rhReady (State.setLen_frame s sp n) :)

@[simp] theorem State.setLen_bhReady (s : State) (sp : Space) (n : Nat) :
    (s.setLen sp n).bhReady = s.bhReady := (congrArg State.bhReady (State.setLen_frame s sp n) :)

@[simp] theorem State.setLen_ctValid (s : State) (sp : Space) (n : Nat) :
    (s.setLen sp n).ctValid = s.ctValid := (congrArg State.ctValid (State.setLen_frame s sp n) :)

@[simp] theorem State.setLen_serState (s : State) (sp : Space) (n : Nat) :
    (s.setLen sp n).serState = s.serState := (congrArg State.serState (State.setLen_frame s sp n) :)

@[simp] theorem State.setLen_winHasChecksum (s : State) (sp : Space) (n : Nat) :
    (s.setLen sp n).winHasChecksum = s.winHasChecksum := (congrArg State.winHasChecksum (State.setLen_frame s sp n) :)

@[simp] theorem State.setLen_errCause (s : State) (sp : Space) (n : Nat) :
    (s.setLen sp n).errCause = s.errCause := (congrArg State.errCause (State.setLen_frame s sp n) :)

@[simp] theorem State.setLen_errCmd (s : State) (sp : Space) (n : Nat) :
    (s.setLen sp n).errCmd = s.errCmd := (congrArg State.errCmd (State.setLen_frame s sp n) :)

@[simp] theorem State.setLen_errInfo (s : State) (sp : Space) (n : Nat) :
    (s.setLen sp n).errInfo = s.errInfo := (congrArg State.errInfo (State.setLen_frame s sp n) :)

@[simp] theorem State.setLen_srcSize (s : State) (sp : Space) (n : Nat) :
    (s.setLen sp n).srcSize = s.srcSize := (congrArg State.srcSize (State.setLen_frame s sp n) :)

@[simp] theorem State.setLen_bhStartOffset (s : State) (sp : Space) (n : Nat) :
    (s.setLen sp n).bhStartOffset = s.bhStartOffset := (congrArg State.bhStartOffset (State.setLen_frame s sp n) :)

@[simp] theorem State.setLen_bhLastBlock (s : State) (sp : Space) (n : Nat) :
    (s.setLen sp n).bhLastBlock = s.bhLastBlock := (congrArg State.bhLastBlock (State.setLen_frame s sp n) :)

@[simp] theorem State.setLen_bhLastEnd (s : State) (sp : Space) (n : Nat) :
    (s.setLen sp n).bhLastEnd = s.bhLastEnd := (congrArg State.bhLastEnd (State.setLen_frame s sp n) :)

@[simp] theorem State.setLen_tgtSize (s : State) (sp : Space) (n : Nat) :
    (s.setLen sp n).tgtSize = s.tgtSize := (congrArg State.tgtSize (State.setLen_frame s sp n) :)

@[simp] theorem State.setLen_tgtLo (s : State) (sp : Space) (n : Nat) :
    (s.setLen sp n).tgtLo = s.tgtLo := (congrArg State.tgtLo (State.setLen_frame s sp n) :)

@[simp] theorem State.setLen_bmSrc (s : State) (sp : Space) (n : Nat) :
    (s.setLen sp n).bmSrc = s.bmSrc := (congrArg State.bmSrc (State.setLen_frame s sp n) :)

@[simp] theorem State.setLen_bmTgt (s : State) (sp : Space) (n : Nat) :
    (s.setLen sp n).bmTgt = s.bmTgt := (congrArg State.bmTgt (State.setLen_frame s sp n) :)

@[simp] theorem State.setLen_bmSize (s : State) (sp : Space) (n : Nat) :
    (s.setLen sp n).bmSize = s.bmSize := (congrArg State.bmSize (State.setLen_frame s sp n) :)

@[simp] theorem State.setLen_inCursor (s : State) (sp : Space) (n : Nat) :
    (s.setLen sp n).inCursor = s.inCursor := (congrArg State.inCursor (State.setLen_frame s sp n) :)

@[simp] theorem State.setLen_inLimit (s : State) (sp : Space) (n : Nat) :
    (s.setLen sp n).inLimit = s.inLimit := (congrArg State.inLimit (State.setLen_frame s sp n) :)

@[simp] theorem State.setLen_cache (s : State) (sp : Space) (n : Nat) :
    (s.setLen sp n).cache = s.cache := (congrArg State.cache (State.setLen_frame s sp n) :)

@[simp] theorem State.setLen_ctMaxMode (s : State) (sp : Space) (n : Nat) :
    (s.setLen sp n).ctMaxMode = s.ctMaxMode := (congrArg State.ctMaxMode (State.setLen_frame s sp n) :)

@[simp] theorem State.setLen_ct (s : State) (sp : Space) (n : Nat) :
    (s.setLen sp n).ct = s.ct := (congrArg State.ct (State.setLen_frame s sp n) :)

@[simp] theorem State.setLen_interleaved (s : State) (sp : Space) (n : Nat) :
    (s.setLen sp n).interleaved = s.interleaved := (congrArg State.interleaved (State.setLen_frame s sp n) :)

@[simp] theorem State.setLen_checksumOn (s : State) (sp : Space) (n : Nat) :
    (s.setLen sp n).checksumOn = s.checksumOn := (congrArg State.checksumOn (State.setLen_frame s sp n) :)

@[simp] theorem State.setLen_winSrcMode (s : State) (sp : Space) (n : Nat) :
    (s.setLen sp n).winSrcMode = s.winSrcMode := (congrArg State.winSrcMode (State.setLen_frame s sp n) :)

@[simp] theorem State.setLen_winSrcSize (s : State) (sp : Space) (n : Nat) :
    (s.setLen sp n).winSrcSize = s.winSrcSize := (congrArg State.winSrcSize (State.setLen_frame s sp n) :)

@[simp] theorem State.setLen_winSrcPos (s : State) (sp : Space) (n : Nat) :
    (s.setLen sp n).winSrcPos = s.winSrcPos := (congrArg State.winSrcPos (State.setLen_frame s sp n) :)

@[simp] theorem State.setLen_winTargetLen (s : State) (sp : Space) (n : Nat) :
    (s.setLen sp n).winTargetLen = s.winTargetLen := (congrArg State.winTargetLen (State.setLen_frame s sp n) :)

@[simp] theorem State.setLen_winChecksum (s : State) (sp : Space) (n : Nat) :
    (s.setLen sp n).winChecksum = s.winChecksum := (congrArg State.winChecksum (State.setLen_frame s sp n) :)

@[simp] theorem State.setLen_lastOpcodeIndex (s : State) (sp : Space) (n : Nat) :
    (s.setLen sp n).lastOpcodeIndex = s.lastOpcodeIndex := (congrArg State.lastOpcodeIndex (State.setLen_frame s sp n) :)

@[simp] theorem State.setLen_rhRemove (s : State) (sp : Space) (n : Nat) :
    (s.setLen sp n).rhRemove = s.rhRemove := (congrArg State.rhRemove (State.setLen_frame s sp n) :)

@[simp] theorem State.setLen_bhHead (s : State) (sp : Space) (n : Nat) :
    (s.setLen sp n).bhHead = s.bhHead := (congrArg State.bhHead (State.setLen_frame s sp n) :)

@[simp] theorem State.setLen_bhNext (s : State) (sp : Space) (n : Nat) :
    (s.setLen sp n).bhNext = s.bhNext := (congrArg State.bhNext (State.setLen_frame s sp n) :)

@[simp] theorem State.setLen_src (s : State) (sp : Space) (n : Nat) :
    (s.setLen sp n).src = s.src := (congrArg State.src (State.setLen_frame s sp n) :)

@[simp] theorem State.setLen_tgt (s : State) (sp : Space) (n : Nat) :
    (s.setLen sp n).tgt = s.tgt := (congrArg State.tgt (State.setLen_frame s sp n) :)

@[simp] theorem State.setLen_inp (s : State) (sp : Space) (n : Nat) :
    (s.setLen sp n).inp = s.inp := (congrArg State.inp (State.setLen_frame s sp n) :)

@[simp] theorem State.setLen_data (s : State) (sp : Space) (n : Nat) :
    (s.setLen sp n).data = s.data := (congrArg State.data (State.setLen_frame s sp n) :)

@[simp] theorem State.setLen_inst (s : State) (sp : Space) (n : Nat) :
    (s.setLen sp n).inst = s.inst := (congrArg State.inst (State.setLen_frame s sp n) :)

@[simp] theorem State.setLen_addr (s : State) (sp : Space) (n : Nat) :
    (s.setLen sp n).addr = s.addr := (congrArg State.addr (State.setLen_frame s sp n) :)

@[simp] theorem State.setLen_out (s : State) (sp : Space) (n : Nat) :
    (s.setLen sp n).out = s.out := (congrArg State.out (State.setLen_frame s sp n) :)

@[simp] theorem State.setLen_epoch (s : State) (sp : Space) (n : Nat) :
    (s.setLen sp n).epoch = s.epoch := (congrArg State.epoch (State.setLen_frame s sp n) :)

@[simp] theorem State.setLen_inputs (s : State) (sp : Space) (n : Nat) :
    (s.setLen sp n).inputs = s.inputs := (congrArg State.inputs (State.setLen_frame s sp n) :)

@[simp] theorem State.setLen_responses (s : State) (sp : Space) (n : Nat) :
    (s.setLen sp n).responses = s.responses := (congrArg State.responses (State.setLen_frame s sp n) :)

@[simp] theorem State.setLen_reader (s : State) (sp : Space) (n : Nat) :
    (s.setLen sp n).reader = s.reader := (congrArg State.reader (State.setLen_frame s sp n) :)

/-! ### append -/

/-- An append leaves all but the spaces and the lengths. -/
theorem State.append_frame (s : State) (sp : Space) (bs : List Byte) :
    { s.append sp bs with
      src := s.src, tgt := s.tgt, inp := s.inp, data := s.data, inst := s.inst, addr := s.addr, out := s.out,
      dataLen := s.dataLen, instLen := s.instLen, addrLen := s.addrLen, outLen := s.outLen } = s := by
  have h := State.setLen_frame (s.writeBytes sp (s.len sp) bs) sp (s.len sp + bs.length)
  refine Eq.trans ?_ (State.writeBytes_frame s sp (s.len sp) bs)
  refine Eq.trans ?_ (congrArg (fun t : State => { t with
    src := s.src, tgt := s.tgt, inp := s.inp, data := s.data, inst := s.inst, addr := s.addr,
    out := s.out }) h)
  simp only [State.writeBytes_dataLen, State.writeBytes_instLen, State.writeBytes_addrLen,
    State.writeBytes_outLen]
  rfl

@[simp] theorem State.append_params (s : State) (sp : Space) (bs : List Byte) :
    (s.append sp bs).params = s.params := (congrArg State.params (State.append_frame s sp bs) :)

@[simp] theorem State.append_failed (s : State) (sp : Space) (bs : List Byte) :
    (s.append sp bs).failed = s.failed := (congrArg State.failed (State.append_frame s sp bs) :)

@[simp] theorem State.append_rhReady (s : State) (sp : Space) (bs : List Byte) :
    (s.append sp bs).rhReady = s.rhReady := (congrArg State.rhReady (State.append_frame s sp bs) :)

@[simp] theorem State.append_bhReady (s : State) (sp : Space) (bs : List Byte) :
    (s.append sp bs).bhReady = s.bhReady := (congrArg State.bhReady (State.append_frame s sp bs) :)

@[simp] theorem State.append_ctValid (s : State) (sp : Space) (bs : List Byte) :
    (s.append sp bs).ctValid = s.ctValid := (congrArg State.ctValid (State.append_frame s sp bs) :)

@[simp] theorem State.append_serState (s : State) (sp : Space) (bs : List Byte) :
    (s.append sp bs).serState = s.serState := (congrArg State.serState (State.append_frame s sp bs) :)

@[simp] theorem State.append_winHasChecksum (s : State) (sp : Space) (bs : List Byte) :
    (s.append sp bs).winHasChecksum = s.winHasChecksum := (congrArg State.winHasChecksum (State.append_frame s sp bs) :)

@[simp] theorem State.append_errCause (s : State) (sp : Space) (bs : List Byte) :
    (s.append sp bs).errCause = s.errCause := (congrArg State.errCause (State.append_frame s sp bs) :)

@[simp] theorem State.append_errCmd (s : State) (sp : Space) (bs : List Byte) :
    (s.append sp bs).errCmd = s.errCmd := (congrArg State.errCmd (State.append_frame s sp bs) :)

@[simp] theorem State.append_errInfo (s : State) (sp : Space) (bs : List Byte) :
    (s.append sp bs).errInfo = s.errInfo := (congrArg State.errInfo (State.append_frame s sp bs) :)

@[simp] theorem State.append_srcSize (s : State) (sp : Space) (bs : List Byte) :
    (s.append sp bs).srcSize = s.srcSize := (congrArg State.srcSize (State.append_frame s sp bs) :)

@[simp] theorem State.append_bhStartOffset (s : State) (sp : Space) (bs : List Byte) :
    (s.append sp bs).bhStartOffset = s.bhStartOffset := (congrArg State.bhStartOffset (State.append_frame s sp bs) :)

@[simp] theorem State.append_bhLastBlock (s : State) (sp : Space) (bs : List Byte) :
    (s.append sp bs).bhLastBlock = s.bhLastBlock := (congrArg State.bhLastBlock (State.append_frame s sp bs) :)

@[simp] theorem State.append_bhLastEnd (s : State) (sp : Space) (bs : List Byte) :
    (s.append sp bs).bhLastEnd = s.bhLastEnd := (congrArg State.bhLastEnd (State.append_frame s sp bs) :)

@[simp] theorem State.append_tgtSize (s : State) (sp : Space) (bs : List Byte) :
    (s.append sp bs).tgtSize = s.tgtSize := (congrArg State.tgtSize (State.append_frame s sp bs) :)

@[simp] theorem State.append_tgtLo (s : State) (sp : Space) (bs : List Byte) :
    (s.append sp bs).tgtLo = s.tgtLo := (congrArg State.tgtLo (State.append_frame s sp bs) :)

@[simp] theorem State.append_bmSrc (s : State) (sp : Space) (bs : List Byte) :
    (s.append sp bs).bmSrc = s.bmSrc := (congrArg State.bmSrc (State.append_frame s sp bs) :)

@[simp] theorem State.append_bmTgt (s : State) (sp : Space) (bs : List Byte) :
    (s.append sp bs).bmTgt = s.bmTgt := (congrArg State.bmTgt (State.append_frame s sp bs) :)

@[simp] theorem State.append_bmSize (s : State) (sp : Space) (bs : List Byte) :
    (s.append sp bs).bmSize = s.bmSize := (congrArg State.bmSize (State.append_frame s sp bs) :)

@[simp] theorem State.append_inCursor (s : State) (sp : Space) (bs : List Byte) :
    (s.append sp bs).inCursor = s.inCursor := (congrArg State.inCursor (State.append_frame s sp bs) :)

@[simp] theorem State.append_inLimit (s : State) (sp : Space) (bs : List Byte) :
    (s.append sp bs).inLimit = s.inLimit := (congrArg State.inLimit (State.append_frame s sp bs) :)

@[simp] theorem State.append_cache (s : State) (sp : Space) (bs : List Byte) :
    (s.append sp bs).cache = s.cache := (congrArg State.cache (State.append_frame s sp bs) :)

@[simp] theorem State.append_ctMaxMode (s : State) (sp : Space) (bs : List Byte) :
    (s.append sp bs).ctMaxMode = s.ctMaxMode := (congrArg State.ctMaxMode (State.append_frame s sp bs) :)

@[simp] theorem State.append_ct (s : State) (sp : Space) (bs : List Byte) :
    (s.append sp bs).ct = s.ct := (congrArg State.ct (State.append_frame s sp bs) :)

@[simp] theorem State.append_interleaved (s : State) (sp : Space) (bs : List Byte) :
    (s.append sp bs).interleaved = s.interleaved := (congrArg State.interleaved (State.append_frame s sp bs) :)

@[simp] theorem State.append_checksumOn (s : State) (sp : Space) (bs : List Byte) :
    (s.append sp bs).checksumOn = s.checksumOn := (congrArg State.checksumOn (State.append_frame s sp bs) :)

@[simp] theorem State.append_winSrcMode (s : State) (sp : Space) (bs : List Byte) :
    (s.append sp bs).winSrcMode = s.winSrcMode := (congrArg State.winSrcMode (State.append_frame s sp bs) :)

@[simp] theorem State.append_winSrcSize (s : State) (sp : Space) (bs : List Byte) :
    (s.append sp bs).winSrcSize = s.winSrcSize := (congrArg State.winSrcSize (State.append_frame s sp bs) :)

@[simp] theorem State.append_winSrcPos (s : State) (sp : Space) (bs : List Byte) :
    (s.append sp bs).winSrcPos = s.winSrcPos := (congrArg State.winSrcPos (State.append_frame s sp bs) :)

@[simp] theorem State.append_winTargetLen (s : State) (sp : Space) (bs : List Byte) :
    (s.append sp bs).winTargetLen = s.winTargetLen := (congrArg State.winTargetLen (State.append_frame s sp bs) :)

@[simp] theorem State.append_winChecksum (s : State) (sp : Space) (bs : List Byte) :
    (s.append sp bs).winChecksum = s.winChecksum := (congrArg State.winChecksum (State.append_frame s sp bs) :)

@[simp] theorem State.append_lastOpcodeIndex (s : State) (sp : Space) (bs : List Byte) :
    (s.append sp bs).lastOpcodeIndex = s.lastOpcodeIndex := (congrArg State.lastOpcodeIndex (State.append_frame s sp bs) :)

@[simp] theorem State.append_rhRemove (s : State) (sp : Space) (bs : List Byte) :
    (s.append sp bs).rhRemove = s.rhRemove := (congrArg State.rhRemove (State.append_frame s sp bs) :)

@[simp] theorem State.append_bhHead (s : State) (sp : Space) (bs : List Byte) :
    (s.append sp bs).bhHead = s.bhHead := (congrArg State.bhHead (State.append_frame s sp bs) :)

@[simp] theorem State.append_bhNext (s : State) (sp : Space) (bs : List Byte) :
    (s.append sp bs).bhNext = s.bhNext := (congrArg State.bhNext (State.append_frame s sp bs) :)

@[simp] theorem State.append_epoch (s : State) (sp : Space) (bs : List Byte) :
    (s.append sp bs).epoch = s.epoch := (congrArg State.epoch (State.append_frame s sp bs) :)

@[simp] theorem State.append_inputs (s : State) (sp : Space) (bs : List Byte) :
    (s.append sp bs).inputs = s.inputs := (congrArg State.inputs (State.append_frame s sp bs) :)

@[simp] theorem State.append_responses (s : State) (sp : Space) (bs : List Byte) :
    (s.append sp bs).responses = s.responses := (congrArg State.responses (State.append_frame s sp bs) :)

@[simp] theorem State.append_reader (s : State) (sp : Space) (bs : List Byte) :
    (s.append sp bs).reader = s.reader := (congrArg State.reader (State.append_frame s sp bs) :)

/-! ### takeFault -/

/-- A fault taken leaves all but the error registers and the responses. -/
theorem State.takeFault_frame (s : State) (op : Byte) (c : Cause) (info : Field) :
    { s.takeFault op c info with
      failed := s.failed, errCause := s.errCause, errCmd := s.errCmd, errInfo := s.errInfo,
      responses := s.responses } = s := by
  unfold State.takeFault
  split <;> rfl

@[simp] theorem State.takeFault_params (s : State) (op : Byte) (c : Cause) (info : Field) :
    (s.takeFault op c info).params = s.params := (congrArg State.params (State.takeFault_frame s op c info) :)

@[simp] theorem State.takeFault_rhReady (s : State) (op : Byte) (c : Cause) (info : Field) :
    (s.takeFault op c info).rhReady = s.rhReady := (congrArg State.rhReady (State.takeFault_frame s op c info) :)

@[simp] theorem State.takeFault_bhReady (s : State) (op : Byte) (c : Cause) (info : Field) :
    (s.takeFault op c info).bhReady = s.bhReady := (congrArg State.bhReady (State.takeFault_frame s op c info) :)

@[simp] theorem State.takeFault_ctValid (s : State) (op : Byte) (c : Cause) (info : Field) :
    (s.takeFault op c info).ctValid = s.ctValid := (congrArg State.ctValid (State.takeFault_frame s op c info) :)

@[simp] theorem State.takeFault_serState (s : State) (op : Byte) (c : Cause) (info : Field) :
    (s.takeFault op c info).serState = s.serState := (congrArg State.serState (State.takeFault_frame s op c info) :)

@[simp] theorem State.takeFault_winHasChecksum (s : State) (op : Byte) (c : Cause) (info : Field) :
    (s.takeFault op c info).winHasChecksum = s.winHasChecksum := (congrArg State.winHasChecksum (State.takeFault_frame s op c info) :)

@[simp] theorem State.takeFault_srcSize (s : State) (op : Byte) (c : Cause) (info : Field) :
    (s.takeFault op c info).srcSize = s.srcSize := (congrArg State.srcSize (State.takeFault_frame s op c info) :)

@[simp] theorem State.takeFault_bhStartOffset (s : State) (op : Byte) (c : Cause) (info : Field) :
    (s.takeFault op c info).bhStartOffset = s.bhStartOffset := (congrArg State.bhStartOffset (State.takeFault_frame s op c info) :)

@[simp] theorem State.takeFault_bhLastBlock (s : State) (op : Byte) (c : Cause) (info : Field) :
    (s.takeFault op c info).bhLastBlock = s.bhLastBlock := (congrArg State.bhLastBlock (State.takeFault_frame s op c info) :)

@[simp] theorem State.takeFault_bhLastEnd (s : State) (op : Byte) (c : Cause) (info : Field) :
    (s.takeFault op c info).bhLastEnd = s.bhLastEnd := (congrArg State.bhLastEnd (State.takeFault_frame s op c info) :)

@[simp] theorem State.takeFault_tgtSize (s : State) (op : Byte) (c : Cause) (info : Field) :
    (s.takeFault op c info).tgtSize = s.tgtSize := (congrArg State.tgtSize (State.takeFault_frame s op c info) :)

@[simp] theorem State.takeFault_tgtLo (s : State) (op : Byte) (c : Cause) (info : Field) :
    (s.takeFault op c info).tgtLo = s.tgtLo := (congrArg State.tgtLo (State.takeFault_frame s op c info) :)

@[simp] theorem State.takeFault_bmSrc (s : State) (op : Byte) (c : Cause) (info : Field) :
    (s.takeFault op c info).bmSrc = s.bmSrc := (congrArg State.bmSrc (State.takeFault_frame s op c info) :)

@[simp] theorem State.takeFault_bmTgt (s : State) (op : Byte) (c : Cause) (info : Field) :
    (s.takeFault op c info).bmTgt = s.bmTgt := (congrArg State.bmTgt (State.takeFault_frame s op c info) :)

@[simp] theorem State.takeFault_bmSize (s : State) (op : Byte) (c : Cause) (info : Field) :
    (s.takeFault op c info).bmSize = s.bmSize := (congrArg State.bmSize (State.takeFault_frame s op c info) :)

@[simp] theorem State.takeFault_inCursor (s : State) (op : Byte) (c : Cause) (info : Field) :
    (s.takeFault op c info).inCursor = s.inCursor := (congrArg State.inCursor (State.takeFault_frame s op c info) :)

@[simp] theorem State.takeFault_inLimit (s : State) (op : Byte) (c : Cause) (info : Field) :
    (s.takeFault op c info).inLimit = s.inLimit := (congrArg State.inLimit (State.takeFault_frame s op c info) :)

@[simp] theorem State.takeFault_cache (s : State) (op : Byte) (c : Cause) (info : Field) :
    (s.takeFault op c info).cache = s.cache := (congrArg State.cache (State.takeFault_frame s op c info) :)

@[simp] theorem State.takeFault_ctMaxMode (s : State) (op : Byte) (c : Cause) (info : Field) :
    (s.takeFault op c info).ctMaxMode = s.ctMaxMode := (congrArg State.ctMaxMode (State.takeFault_frame s op c info) :)

@[simp] theorem State.takeFault_ct (s : State) (op : Byte) (c : Cause) (info : Field) :
    (s.takeFault op c info).ct = s.ct := (congrArg State.ct (State.takeFault_frame s op c info) :)

@[simp] theorem State.takeFault_interleaved (s : State) (op : Byte) (c : Cause) (info : Field) :
    (s.takeFault op c info).interleaved = s.interleaved := (congrArg State.interleaved (State.takeFault_frame s op c info) :)

@[simp] theorem State.takeFault_checksumOn (s : State) (op : Byte) (c : Cause) (info : Field) :
    (s.takeFault op c info).checksumOn = s.checksumOn := (congrArg State.checksumOn (State.takeFault_frame s op c info) :)

@[simp] theorem State.takeFault_winSrcMode (s : State) (op : Byte) (c : Cause) (info : Field) :
    (s.takeFault op c info).winSrcMode = s.winSrcMode := (congrArg State.winSrcMode (State.takeFault_frame s op c info) :)

@[simp] theorem State.takeFault_winSrcSize (s : State) (op : Byte) (c : Cause) (info : Field) :
    (s.takeFault op c info).winSrcSize = s.winSrcSize := (congrArg State.winSrcSize (State.takeFault_frame s op c info) :)

@[simp] theorem State.takeFault_winSrcPos (s : State) (op : Byte) (c : Cause) (info : Field) :
    (s.takeFault op c info).winSrcPos = s.winSrcPos := (congrArg State.winSrcPos (State.takeFault_frame s op c info) :)

@[simp] theorem State.takeFault_winTargetLen (s : State) (op : Byte) (c : Cause) (info : Field) :
    (s.takeFault op c info).winTargetLen = s.winTargetLen := (congrArg State.winTargetLen (State.takeFault_frame s op c info) :)

@[simp] theorem State.takeFault_winChecksum (s : State) (op : Byte) (c : Cause) (info : Field) :
    (s.takeFault op c info).winChecksum = s.winChecksum := (congrArg State.winChecksum (State.takeFault_frame s op c info) :)

@[simp] theorem State.takeFault_lastOpcodeIndex (s : State) (op : Byte) (c : Cause) (info : Field) :
    (s.takeFault op c info).lastOpcodeIndex = s.lastOpcodeIndex := (congrArg State.lastOpcodeIndex (State.takeFault_frame s op c info) :)

@[simp] theorem State.takeFault_dataLen (s : State) (op : Byte) (c : Cause) (info : Field) :
    (s.takeFault op c info).dataLen = s.dataLen := (congrArg State.dataLen (State.takeFault_frame s op c info) :)

@[simp] theorem State.takeFault_instLen (s : State) (op : Byte) (c : Cause) (info : Field) :
    (s.takeFault op c info).instLen = s.instLen := (congrArg State.instLen (State.takeFault_frame s op c info) :)

@[simp] theorem State.takeFault_addrLen (s : State) (op : Byte) (c : Cause) (info : Field) :
    (s.takeFault op c info).addrLen = s.addrLen := (congrArg State.addrLen (State.takeFault_frame s op c info) :)

@[simp] theorem State.takeFault_outLen (s : State) (op : Byte) (c : Cause) (info : Field) :
    (s.takeFault op c info).outLen = s.outLen := (congrArg State.outLen (State.takeFault_frame s op c info) :)

@[simp] theorem State.takeFault_rhRemove (s : State) (op : Byte) (c : Cause) (info : Field) :
    (s.takeFault op c info).rhRemove = s.rhRemove := (congrArg State.rhRemove (State.takeFault_frame s op c info) :)

@[simp] theorem State.takeFault_bhHead (s : State) (op : Byte) (c : Cause) (info : Field) :
    (s.takeFault op c info).bhHead = s.bhHead := (congrArg State.bhHead (State.takeFault_frame s op c info) :)

@[simp] theorem State.takeFault_bhNext (s : State) (op : Byte) (c : Cause) (info : Field) :
    (s.takeFault op c info).bhNext = s.bhNext := (congrArg State.bhNext (State.takeFault_frame s op c info) :)

@[simp] theorem State.takeFault_src (s : State) (op : Byte) (c : Cause) (info : Field) :
    (s.takeFault op c info).src = s.src := (congrArg State.src (State.takeFault_frame s op c info) :)

@[simp] theorem State.takeFault_tgt (s : State) (op : Byte) (c : Cause) (info : Field) :
    (s.takeFault op c info).tgt = s.tgt := (congrArg State.tgt (State.takeFault_frame s op c info) :)

@[simp] theorem State.takeFault_inp (s : State) (op : Byte) (c : Cause) (info : Field) :
    (s.takeFault op c info).inp = s.inp := (congrArg State.inp (State.takeFault_frame s op c info) :)

@[simp] theorem State.takeFault_data (s : State) (op : Byte) (c : Cause) (info : Field) :
    (s.takeFault op c info).data = s.data := (congrArg State.data (State.takeFault_frame s op c info) :)

@[simp] theorem State.takeFault_inst (s : State) (op : Byte) (c : Cause) (info : Field) :
    (s.takeFault op c info).inst = s.inst := (congrArg State.inst (State.takeFault_frame s op c info) :)

@[simp] theorem State.takeFault_addr (s : State) (op : Byte) (c : Cause) (info : Field) :
    (s.takeFault op c info).addr = s.addr := (congrArg State.addr (State.takeFault_frame s op c info) :)

@[simp] theorem State.takeFault_out (s : State) (op : Byte) (c : Cause) (info : Field) :
    (s.takeFault op c info).out = s.out := (congrArg State.out (State.takeFault_frame s op c info) :)

@[simp] theorem State.takeFault_epoch (s : State) (op : Byte) (c : Cause) (info : Field) :
    (s.takeFault op c info).epoch = s.epoch := (congrArg State.epoch (State.takeFault_frame s op c info) :)

@[simp] theorem State.takeFault_inputs (s : State) (op : Byte) (c : Cause) (info : Field) :
    (s.takeFault op c info).inputs = s.inputs := (congrArg State.inputs (State.takeFault_frame s op c info) :)

@[simp] theorem State.takeFault_reader (s : State) (op : Byte) (c : Cause) (info : Field) :
    (s.takeFault op c info).reader = s.reader := (congrArg State.reader (State.takeFault_frame s op c info) :)

@[simp] theorem State.takeFault_responses (s : State) (op : Byte) (c : Cause) (info : Field) :
    (s.takeFault op c info).responses = s.responses ++ [Response.bare c.status] := by
  unfold State.takeFault
  split <;> rfl

/-! ### setFormatFlags -/

@[simp] theorem State.setFormatFlags_params (s : State) (n : Nat) :
    (s.setFormatFlags n).params = s.params := rfl

@[simp] theorem State.setFormatFlags_failed (s : State) (n : Nat) :
    (s.setFormatFlags n).failed = s.failed := rfl

@[simp] theorem State.setFormatFlags_rhReady (s : State) (n : Nat) :
    (s.setFormatFlags n).rhReady = s.rhReady := rfl

@[simp] theorem State.setFormatFlags_bhReady (s : State) (n : Nat) :
    (s.setFormatFlags n).bhReady = s.bhReady := rfl

@[simp] theorem State.setFormatFlags_ctValid (s : State) (n : Nat) :
    (s.setFormatFlags n).ctValid = s.ctValid := rfl

@[simp] theorem State.setFormatFlags_serState (s : State) (n : Nat) :
    (s.setFormatFlags n).serState = s.serState := rfl

@[simp] theorem State.setFormatFlags_winHasChecksum (s : State) (n : Nat) :
    (s.setFormatFlags n).winHasChecksum = s.winHasChecksum := rfl

@[simp] theorem State.setFormatFlags_errCause (s : State) (n : Nat) :
    (s.setFormatFlags n).errCause = s.errCause := rfl

@[simp] theorem State.setFormatFlags_errCmd (s : State) (n : Nat) :
    (s.setFormatFlags n).errCmd = s.errCmd := rfl

@[simp] theorem State.setFormatFlags_errInfo (s : State) (n : Nat) :
    (s.setFormatFlags n).errInfo = s.errInfo := rfl

@[simp] theorem State.setFormatFlags_srcSize (s : State) (n : Nat) :
    (s.setFormatFlags n).srcSize = s.srcSize := rfl

@[simp] theorem State.setFormatFlags_bhStartOffset (s : State) (n : Nat) :
    (s.setFormatFlags n).bhStartOffset = s.bhStartOffset := rfl

@[simp] theorem State.setFormatFlags_bhLastBlock (s : State) (n : Nat) :
    (s.setFormatFlags n).bhLastBlock = s.bhLastBlock := rfl

@[simp] theorem State.setFormatFlags_bhLastEnd (s : State) (n : Nat) :
    (s.setFormatFlags n).bhLastEnd = s.bhLastEnd := rfl

@[simp] theorem State.setFormatFlags_tgtSize (s : State) (n : Nat) :
    (s.setFormatFlags n).tgtSize = s.tgtSize := rfl

@[simp] theorem State.setFormatFlags_tgtLo (s : State) (n : Nat) :
    (s.setFormatFlags n).tgtLo = s.tgtLo := rfl

@[simp] theorem State.setFormatFlags_bmSrc (s : State) (n : Nat) :
    (s.setFormatFlags n).bmSrc = s.bmSrc := rfl

@[simp] theorem State.setFormatFlags_bmTgt (s : State) (n : Nat) :
    (s.setFormatFlags n).bmTgt = s.bmTgt := rfl

@[simp] theorem State.setFormatFlags_bmSize (s : State) (n : Nat) :
    (s.setFormatFlags n).bmSize = s.bmSize := rfl

@[simp] theorem State.setFormatFlags_inCursor (s : State) (n : Nat) :
    (s.setFormatFlags n).inCursor = s.inCursor := rfl

@[simp] theorem State.setFormatFlags_inLimit (s : State) (n : Nat) :
    (s.setFormatFlags n).inLimit = s.inLimit := rfl

@[simp] theorem State.setFormatFlags_cache (s : State) (n : Nat) :
    (s.setFormatFlags n).cache = s.cache := rfl

@[simp] theorem State.setFormatFlags_ctMaxMode (s : State) (n : Nat) :
    (s.setFormatFlags n).ctMaxMode = s.ctMaxMode := rfl

@[simp] theorem State.setFormatFlags_ct (s : State) (n : Nat) :
    (s.setFormatFlags n).ct = s.ct := rfl

@[simp] theorem State.setFormatFlags_interleaved (s : State) (n : Nat) :
    (s.setFormatFlags n).interleaved = n.testBit 0 := rfl

@[simp] theorem State.setFormatFlags_checksumOn (s : State) (n : Nat) :
    (s.setFormatFlags n).checksumOn = n.testBit 1 := rfl

@[simp] theorem State.setFormatFlags_winSrcMode (s : State) (n : Nat) :
    (s.setFormatFlags n).winSrcMode = s.winSrcMode := rfl

@[simp] theorem State.setFormatFlags_winSrcSize (s : State) (n : Nat) :
    (s.setFormatFlags n).winSrcSize = s.winSrcSize := rfl

@[simp] theorem State.setFormatFlags_winSrcPos (s : State) (n : Nat) :
    (s.setFormatFlags n).winSrcPos = s.winSrcPos := rfl

@[simp] theorem State.setFormatFlags_winTargetLen (s : State) (n : Nat) :
    (s.setFormatFlags n).winTargetLen = s.winTargetLen := rfl

@[simp] theorem State.setFormatFlags_winChecksum (s : State) (n : Nat) :
    (s.setFormatFlags n).winChecksum = s.winChecksum := rfl

@[simp] theorem State.setFormatFlags_lastOpcodeIndex (s : State) (n : Nat) :
    (s.setFormatFlags n).lastOpcodeIndex = s.lastOpcodeIndex := rfl

@[simp] theorem State.setFormatFlags_dataLen (s : State) (n : Nat) :
    (s.setFormatFlags n).dataLen = s.dataLen := rfl

@[simp] theorem State.setFormatFlags_instLen (s : State) (n : Nat) :
    (s.setFormatFlags n).instLen = s.instLen := rfl

@[simp] theorem State.setFormatFlags_addrLen (s : State) (n : Nat) :
    (s.setFormatFlags n).addrLen = s.addrLen := rfl

@[simp] theorem State.setFormatFlags_outLen (s : State) (n : Nat) :
    (s.setFormatFlags n).outLen = s.outLen := rfl

@[simp] theorem State.setFormatFlags_rhRemove (s : State) (n : Nat) :
    (s.setFormatFlags n).rhRemove = s.rhRemove := rfl

@[simp] theorem State.setFormatFlags_bhHead (s : State) (n : Nat) :
    (s.setFormatFlags n).bhHead = s.bhHead := rfl

@[simp] theorem State.setFormatFlags_bhNext (s : State) (n : Nat) :
    (s.setFormatFlags n).bhNext = s.bhNext := rfl

@[simp] theorem State.setFormatFlags_src (s : State) (n : Nat) :
    (s.setFormatFlags n).src = s.src := rfl

@[simp] theorem State.setFormatFlags_tgt (s : State) (n : Nat) :
    (s.setFormatFlags n).tgt = s.tgt := rfl

@[simp] theorem State.setFormatFlags_inp (s : State) (n : Nat) :
    (s.setFormatFlags n).inp = s.inp := rfl

@[simp] theorem State.setFormatFlags_data (s : State) (n : Nat) :
    (s.setFormatFlags n).data = s.data := rfl

@[simp] theorem State.setFormatFlags_inst (s : State) (n : Nat) :
    (s.setFormatFlags n).inst = s.inst := rfl

@[simp] theorem State.setFormatFlags_addr (s : State) (n : Nat) :
    (s.setFormatFlags n).addr = s.addr := rfl

@[simp] theorem State.setFormatFlags_out (s : State) (n : Nat) :
    (s.setFormatFlags n).out = s.out := rfl

@[simp] theorem State.setFormatFlags_epoch (s : State) (n : Nat) :
    (s.setFormatFlags n).epoch = s.epoch := rfl

@[simp] theorem State.setFormatFlags_inputs (s : State) (n : Nat) :
    (s.setFormatFlags n).inputs = s.inputs := rfl

@[simp] theorem State.setFormatFlags_responses (s : State) (n : Nat) :
    (s.setFormatFlags n).responses = s.responses := rfl

@[simp] theorem State.setFormatFlags_reader (s : State) (n : Nat) :
    (s.setFormatFlags n).reader = s.reader := rfl

/-! ### clearWindow -/

@[simp] theorem State.clearWindow_params (s : State) :
    (s.clearWindow).params = s.params := rfl

@[simp] theorem State.clearWindow_failed (s : State) :
    (s.clearWindow).failed = s.failed := rfl

@[simp] theorem State.clearWindow_rhReady (s : State) :
    (s.clearWindow).rhReady = s.rhReady := rfl

@[simp] theorem State.clearWindow_bhReady (s : State) :
    (s.clearWindow).bhReady = s.bhReady := rfl

@[simp] theorem State.clearWindow_ctValid (s : State) :
    (s.clearWindow).ctValid = s.ctValid := rfl

@[simp] theorem State.clearWindow_serState (s : State) :
    (s.clearWindow).serState = s.serState := rfl

@[simp] theorem State.clearWindow_winHasChecksum (s : State) :
    (s.clearWindow).winHasChecksum = false := rfl

@[simp] theorem State.clearWindow_errCause (s : State) :
    (s.clearWindow).errCause = s.errCause := rfl

@[simp] theorem State.clearWindow_errCmd (s : State) :
    (s.clearWindow).errCmd = s.errCmd := rfl

@[simp] theorem State.clearWindow_errInfo (s : State) :
    (s.clearWindow).errInfo = s.errInfo := rfl

@[simp] theorem State.clearWindow_srcSize (s : State) :
    (s.clearWindow).srcSize = s.srcSize := rfl

@[simp] theorem State.clearWindow_bhStartOffset (s : State) :
    (s.clearWindow).bhStartOffset = s.bhStartOffset := rfl

@[simp] theorem State.clearWindow_bhLastBlock (s : State) :
    (s.clearWindow).bhLastBlock = s.bhLastBlock := rfl

@[simp] theorem State.clearWindow_bhLastEnd (s : State) :
    (s.clearWindow).bhLastEnd = s.bhLastEnd := rfl

@[simp] theorem State.clearWindow_tgtSize (s : State) :
    (s.clearWindow).tgtSize = s.tgtSize := rfl

@[simp] theorem State.clearWindow_tgtLo (s : State) :
    (s.clearWindow).tgtLo = s.tgtLo := rfl

@[simp] theorem State.clearWindow_bmSrc (s : State) :
    (s.clearWindow).bmSrc = s.bmSrc := rfl

@[simp] theorem State.clearWindow_bmTgt (s : State) :
    (s.clearWindow).bmTgt = s.bmTgt := rfl

@[simp] theorem State.clearWindow_bmSize (s : State) :
    (s.clearWindow).bmSize = s.bmSize := rfl

@[simp] theorem State.clearWindow_inCursor (s : State) :
    (s.clearWindow).inCursor = s.inCursor := rfl

@[simp] theorem State.clearWindow_inLimit (s : State) :
    (s.clearWindow).inLimit = s.inLimit := rfl

@[simp] theorem State.clearWindow_cache (s : State) :
    (s.clearWindow).cache = s.cache.clear := rfl

@[simp] theorem State.clearWindow_ctMaxMode (s : State) :
    (s.clearWindow).ctMaxMode = s.ctMaxMode := rfl

@[simp] theorem State.clearWindow_ct (s : State) :
    (s.clearWindow).ct = s.ct := rfl

@[simp] theorem State.clearWindow_interleaved (s : State) :
    (s.clearWindow).interleaved = s.interleaved := rfl

@[simp] theorem State.clearWindow_checksumOn (s : State) :
    (s.clearWindow).checksumOn = s.checksumOn := rfl

@[simp] theorem State.clearWindow_winSrcMode (s : State) :
    (s.clearWindow).winSrcMode = s.winSrcMode := rfl

@[simp] theorem State.clearWindow_winSrcSize (s : State) :
    (s.clearWindow).winSrcSize = s.winSrcSize := rfl

@[simp] theorem State.clearWindow_winSrcPos (s : State) :
    (s.clearWindow).winSrcPos = s.winSrcPos := rfl

@[simp] theorem State.clearWindow_winTargetLen (s : State) :
    (s.clearWindow).winTargetLen = 0 := rfl

@[simp] theorem State.clearWindow_winChecksum (s : State) :
    (s.clearWindow).winChecksum = 0 := rfl

@[simp] theorem State.clearWindow_lastOpcodeIndex (s : State) :
    (s.clearWindow).lastOpcodeIndex = -1 := rfl

@[simp] theorem State.clearWindow_dataLen (s : State) :
    (s.clearWindow).dataLen = 0 := rfl

@[simp] theorem State.clearWindow_instLen (s : State) :
    (s.clearWindow).instLen = 0 := rfl

@[simp] theorem State.clearWindow_addrLen (s : State) :
    (s.clearWindow).addrLen = 0 := rfl

@[simp] theorem State.clearWindow_outLen (s : State) :
    (s.clearWindow).outLen = s.outLen := rfl

@[simp] theorem State.clearWindow_rhRemove (s : State) :
    (s.clearWindow).rhRemove = s.rhRemove := rfl

@[simp] theorem State.clearWindow_bhHead (s : State) :
    (s.clearWindow).bhHead = s.bhHead := rfl

@[simp] theorem State.clearWindow_bhNext (s : State) :
    (s.clearWindow).bhNext = s.bhNext := rfl

@[simp] theorem State.clearWindow_src (s : State) :
    (s.clearWindow).src = s.src := rfl

@[simp] theorem State.clearWindow_tgt (s : State) :
    (s.clearWindow).tgt = s.tgt := rfl

@[simp] theorem State.clearWindow_inp (s : State) :
    (s.clearWindow).inp = s.inp := rfl

@[simp] theorem State.clearWindow_data (s : State) :
    (s.clearWindow).data = s.data := rfl

@[simp] theorem State.clearWindow_inst (s : State) :
    (s.clearWindow).inst = s.inst := rfl

@[simp] theorem State.clearWindow_addr (s : State) :
    (s.clearWindow).addr = s.addr := rfl

@[simp] theorem State.clearWindow_out (s : State) :
    (s.clearWindow).out = s.out := rfl

@[simp] theorem State.clearWindow_epoch (s : State) :
    (s.clearWindow).epoch = s.epoch := rfl

@[simp] theorem State.clearWindow_inputs (s : State) :
    (s.clearWindow).inputs = s.inputs := rfl

@[simp] theorem State.clearWindow_responses (s : State) :
    (s.clearWindow).responses = s.responses := rfl

@[simp] theorem State.clearWindow_reader (s : State) :
    (s.clearWindow).reader = Reader.atStart s.cache.nearSize s.cache.sameSize := rfl

/-! ### sessionReset -/

@[simp] theorem State.sessionReset_params (s : State) :
    (s.sessionReset).params = s.params := rfl

@[simp] theorem State.sessionReset_failed (s : State) :
    (s.sessionReset).failed = (State.resetWith s.params).failed := rfl

@[simp] theorem State.sessionReset_rhReady (s : State) :
    (s.sessionReset).rhReady = s.rhReady := rfl

@[simp] theorem State.sessionReset_bhReady (s : State) :
    (s.sessionReset).bhReady = s.bhReady := rfl

@[simp] theorem State.sessionReset_ctValid (s : State) :
    (s.sessionReset).ctValid = (State.resetWith s.params).ctValid := rfl

@[simp] theorem State.sessionReset_serState (s : State) :
    (s.sessionReset).serState = (State.resetWith s.params).serState := rfl

@[simp] theorem State.sessionReset_winHasChecksum (s : State) :
    (s.sessionReset).winHasChecksum = (State.resetWith s.params).winHasChecksum := rfl

@[simp] theorem State.sessionReset_errCause (s : State) :
    (s.sessionReset).errCause = (State.resetWith s.params).errCause := rfl

@[simp] theorem State.sessionReset_errCmd (s : State) :
    (s.sessionReset).errCmd = (State.resetWith s.params).errCmd := rfl

@[simp] theorem State.sessionReset_errInfo (s : State) :
    (s.sessionReset).errInfo = (State.resetWith s.params).errInfo := rfl

@[simp] theorem State.sessionReset_srcSize (s : State) :
    (s.sessionReset).srcSize = s.srcSize := rfl

@[simp] theorem State.sessionReset_bhStartOffset (s : State) :
    (s.sessionReset).bhStartOffset = s.bhStartOffset := rfl

@[simp] theorem State.sessionReset_bhLastBlock (s : State) :
    (s.sessionReset).bhLastBlock = s.bhLastBlock := rfl

@[simp] theorem State.sessionReset_bhLastEnd (s : State) :
    (s.sessionReset).bhLastEnd = s.bhLastEnd := rfl

@[simp] theorem State.sessionReset_tgtSize (s : State) :
    (s.sessionReset).tgtSize = (State.resetWith s.params).tgtSize := rfl

@[simp] theorem State.sessionReset_tgtLo (s : State) :
    (s.sessionReset).tgtLo = (State.resetWith s.params).tgtLo := rfl

@[simp] theorem State.sessionReset_bmSrc (s : State) :
    (s.sessionReset).bmSrc = (State.resetWith s.params).bmSrc := rfl

@[simp] theorem State.sessionReset_bmTgt (s : State) :
    (s.sessionReset).bmTgt = (State.resetWith s.params).bmTgt := rfl

@[simp] theorem State.sessionReset_bmSize (s : State) :
    (s.sessionReset).bmSize = (State.resetWith s.params).bmSize := rfl

@[simp] theorem State.sessionReset_inCursor (s : State) :
    (s.sessionReset).inCursor = (State.resetWith s.params).inCursor := rfl

@[simp] theorem State.sessionReset_inLimit (s : State) :
    (s.sessionReset).inLimit = (State.resetWith s.params).inLimit := rfl

@[simp] theorem State.sessionReset_cache (s : State) :
    (s.sessionReset).cache = (State.resetWith s.params).cache := rfl

@[simp] theorem State.sessionReset_ctMaxMode (s : State) :
    (s.sessionReset).ctMaxMode = (State.resetWith s.params).ctMaxMode := rfl

@[simp] theorem State.sessionReset_ct (s : State) :
    (s.sessionReset).ct = (State.resetWith s.params).ct := rfl

@[simp] theorem State.sessionReset_interleaved (s : State) :
    (s.sessionReset).interleaved = (State.resetWith s.params).interleaved := rfl

@[simp] theorem State.sessionReset_checksumOn (s : State) :
    (s.sessionReset).checksumOn = (State.resetWith s.params).checksumOn := rfl

@[simp] theorem State.sessionReset_winSrcMode (s : State) :
    (s.sessionReset).winSrcMode = (State.resetWith s.params).winSrcMode := rfl

@[simp] theorem State.sessionReset_winSrcSize (s : State) :
    (s.sessionReset).winSrcSize = (State.resetWith s.params).winSrcSize := rfl

@[simp] theorem State.sessionReset_winSrcPos (s : State) :
    (s.sessionReset).winSrcPos = (State.resetWith s.params).winSrcPos := rfl

@[simp] theorem State.sessionReset_winTargetLen (s : State) :
    (s.sessionReset).winTargetLen = (State.resetWith s.params).winTargetLen := rfl

@[simp] theorem State.sessionReset_winChecksum (s : State) :
    (s.sessionReset).winChecksum = (State.resetWith s.params).winChecksum := rfl

@[simp] theorem State.sessionReset_lastOpcodeIndex (s : State) :
    (s.sessionReset).lastOpcodeIndex = (State.resetWith s.params).lastOpcodeIndex := rfl

@[simp] theorem State.sessionReset_dataLen (s : State) :
    (s.sessionReset).dataLen = (State.resetWith s.params).dataLen := rfl

@[simp] theorem State.sessionReset_instLen (s : State) :
    (s.sessionReset).instLen = (State.resetWith s.params).instLen := rfl

@[simp] theorem State.sessionReset_addrLen (s : State) :
    (s.sessionReset).addrLen = (State.resetWith s.params).addrLen := rfl

@[simp] theorem State.sessionReset_outLen (s : State) :
    (s.sessionReset).outLen = (State.resetWith s.params).outLen := rfl

@[simp] theorem State.sessionReset_rhRemove (s : State) :
    (s.sessionReset).rhRemove = s.rhRemove := rfl

@[simp] theorem State.sessionReset_bhHead (s : State) :
    (s.sessionReset).bhHead = s.bhHead := rfl

@[simp] theorem State.sessionReset_bhNext (s : State) :
    (s.sessionReset).bhNext = s.bhNext := rfl

@[simp] theorem State.sessionReset_src (s : State) :
    (s.sessionReset).src = s.src := rfl

@[simp] theorem State.sessionReset_tgt (s : State) :
    (s.sessionReset).tgt = s.tgt := rfl

@[simp] theorem State.sessionReset_inp (s : State) :
    (s.sessionReset).inp = s.inp := rfl

@[simp] theorem State.sessionReset_data (s : State) :
    (s.sessionReset).data = s.data := rfl

@[simp] theorem State.sessionReset_inst (s : State) :
    (s.sessionReset).inst = s.inst := rfl

@[simp] theorem State.sessionReset_addr (s : State) :
    (s.sessionReset).addr = s.addr := rfl

@[simp] theorem State.sessionReset_out (s : State) :
    (s.sessionReset).out = s.out := rfl

@[simp] theorem State.sessionReset_epoch (s : State) :
    (s.sessionReset).epoch = s.epoch := rfl

@[simp] theorem State.sessionReset_inputs (s : State) :
    (s.sessionReset).inputs = s.inputs := rfl

@[simp] theorem State.sessionReset_responses (s : State) :
    (s.sessionReset).responses = s.responses := rfl

@[simp] theorem State.sessionReset_reader (s : State) :
    (s.sessionReset).reader = (State.resetWith s.params).reader := rfl

/-! ### fullReset -/

@[simp] theorem State.fullReset_params (s : State) :
    (s.fullReset).params = s.params := rfl

@[simp] theorem State.fullReset_failed (s : State) :
    (s.fullReset).failed = (State.resetWith s.params).failed := rfl

@[simp] theorem State.fullReset_rhReady (s : State) :
    (s.fullReset).rhReady = (State.resetWith s.params).rhReady := rfl

@[simp] theorem State.fullReset_bhReady (s : State) :
    (s.fullReset).bhReady = (State.resetWith s.params).bhReady := rfl

@[simp] theorem State.fullReset_ctValid (s : State) :
    (s.fullReset).ctValid = (State.resetWith s.params).ctValid := rfl

@[simp] theorem State.fullReset_serState (s : State) :
    (s.fullReset).serState = (State.resetWith s.params).serState := rfl

@[simp] theorem State.fullReset_winHasChecksum (s : State) :
    (s.fullReset).winHasChecksum = (State.resetWith s.params).winHasChecksum := rfl

@[simp] theorem State.fullReset_errCause (s : State) :
    (s.fullReset).errCause = (State.resetWith s.params).errCause := rfl

@[simp] theorem State.fullReset_errCmd (s : State) :
    (s.fullReset).errCmd = (State.resetWith s.params).errCmd := rfl

@[simp] theorem State.fullReset_errInfo (s : State) :
    (s.fullReset).errInfo = (State.resetWith s.params).errInfo := rfl

@[simp] theorem State.fullReset_srcSize (s : State) :
    (s.fullReset).srcSize = (State.resetWith s.params).srcSize := rfl

@[simp] theorem State.fullReset_bhStartOffset (s : State) :
    (s.fullReset).bhStartOffset = (State.resetWith s.params).bhStartOffset := rfl

@[simp] theorem State.fullReset_bhLastBlock (s : State) :
    (s.fullReset).bhLastBlock = (State.resetWith s.params).bhLastBlock := rfl

@[simp] theorem State.fullReset_bhLastEnd (s : State) :
    (s.fullReset).bhLastEnd = (State.resetWith s.params).bhLastEnd := rfl

@[simp] theorem State.fullReset_tgtSize (s : State) :
    (s.fullReset).tgtSize = (State.resetWith s.params).tgtSize := rfl

@[simp] theorem State.fullReset_tgtLo (s : State) :
    (s.fullReset).tgtLo = (State.resetWith s.params).tgtLo := rfl

@[simp] theorem State.fullReset_bmSrc (s : State) :
    (s.fullReset).bmSrc = (State.resetWith s.params).bmSrc := rfl

@[simp] theorem State.fullReset_bmTgt (s : State) :
    (s.fullReset).bmTgt = (State.resetWith s.params).bmTgt := rfl

@[simp] theorem State.fullReset_bmSize (s : State) :
    (s.fullReset).bmSize = (State.resetWith s.params).bmSize := rfl

@[simp] theorem State.fullReset_inCursor (s : State) :
    (s.fullReset).inCursor = (State.resetWith s.params).inCursor := rfl

@[simp] theorem State.fullReset_inLimit (s : State) :
    (s.fullReset).inLimit = (State.resetWith s.params).inLimit := rfl

@[simp] theorem State.fullReset_cache (s : State) :
    (s.fullReset).cache = (State.resetWith s.params).cache := rfl

@[simp] theorem State.fullReset_ctMaxMode (s : State) :
    (s.fullReset).ctMaxMode = (State.resetWith s.params).ctMaxMode := rfl

@[simp] theorem State.fullReset_ct (s : State) :
    (s.fullReset).ct = (State.resetWith s.params).ct := rfl

@[simp] theorem State.fullReset_interleaved (s : State) :
    (s.fullReset).interleaved = (State.resetWith s.params).interleaved := rfl

@[simp] theorem State.fullReset_checksumOn (s : State) :
    (s.fullReset).checksumOn = (State.resetWith s.params).checksumOn := rfl

@[simp] theorem State.fullReset_winSrcMode (s : State) :
    (s.fullReset).winSrcMode = (State.resetWith s.params).winSrcMode := rfl

@[simp] theorem State.fullReset_winSrcSize (s : State) :
    (s.fullReset).winSrcSize = (State.resetWith s.params).winSrcSize := rfl

@[simp] theorem State.fullReset_winSrcPos (s : State) :
    (s.fullReset).winSrcPos = (State.resetWith s.params).winSrcPos := rfl

@[simp] theorem State.fullReset_winTargetLen (s : State) :
    (s.fullReset).winTargetLen = (State.resetWith s.params).winTargetLen := rfl

@[simp] theorem State.fullReset_winChecksum (s : State) :
    (s.fullReset).winChecksum = (State.resetWith s.params).winChecksum := rfl

@[simp] theorem State.fullReset_lastOpcodeIndex (s : State) :
    (s.fullReset).lastOpcodeIndex = (State.resetWith s.params).lastOpcodeIndex := rfl

@[simp] theorem State.fullReset_dataLen (s : State) :
    (s.fullReset).dataLen = (State.resetWith s.params).dataLen := rfl

@[simp] theorem State.fullReset_instLen (s : State) :
    (s.fullReset).instLen = (State.resetWith s.params).instLen := rfl

@[simp] theorem State.fullReset_addrLen (s : State) :
    (s.fullReset).addrLen = (State.resetWith s.params).addrLen := rfl

@[simp] theorem State.fullReset_outLen (s : State) :
    (s.fullReset).outLen = (State.resetWith s.params).outLen := rfl

@[simp] theorem State.fullReset_rhRemove (s : State) :
    (s.fullReset).rhRemove = (State.resetWith s.params).rhRemove := rfl

@[simp] theorem State.fullReset_bhHead (s : State) :
    (s.fullReset).bhHead = (State.resetWith s.params).bhHead := rfl

@[simp] theorem State.fullReset_bhNext (s : State) :
    (s.fullReset).bhNext = (State.resetWith s.params).bhNext := rfl

@[simp] theorem State.fullReset_src (s : State) :
    (s.fullReset).src = (State.resetWith s.params).src := rfl

@[simp] theorem State.fullReset_tgt (s : State) :
    (s.fullReset).tgt = (State.resetWith s.params).tgt := rfl

@[simp] theorem State.fullReset_inp (s : State) :
    (s.fullReset).inp = (State.resetWith s.params).inp := rfl

@[simp] theorem State.fullReset_data (s : State) :
    (s.fullReset).data = (State.resetWith s.params).data := rfl

@[simp] theorem State.fullReset_inst (s : State) :
    (s.fullReset).inst = (State.resetWith s.params).inst := rfl

@[simp] theorem State.fullReset_addr (s : State) :
    (s.fullReset).addr = (State.resetWith s.params).addr := rfl

@[simp] theorem State.fullReset_out (s : State) :
    (s.fullReset).out = (State.resetWith s.params).out := rfl

@[simp] theorem State.fullReset_epoch (s : State) :
    (s.fullReset).epoch = s.epoch + 1 := rfl

@[simp] theorem State.fullReset_inputs (s : State) :
    (s.fullReset).inputs = s.inputs := rfl

@[simp] theorem State.fullReset_responses (s : State) :
    (s.fullReset).responses = s.responses := rfl

@[simp] theorem State.fullReset_reader (s : State) :
    (s.fullReset).reader = (State.resetWith s.params).reader := rfl

/-! ### writeReg -/

/-- A register written leaves all but the writable registers. -/
theorem State.writeReg_frame (s : State) (n : Nat) (v : Int) :
    { s.writeReg n v with
      tgtSize := s.tgtSize, tgtLo := s.tgtLo, bmSrc := s.bmSrc, bmTgt := s.bmTgt, bmSize := s.bmSize,
      inCursor := s.inCursor, inLimit := s.inLimit } = s := by
  unfold State.writeReg
  split <;> rfl

@[simp] theorem State.writeReg_params (s : State) (n : Nat) (v : Int) :
    (s.writeReg n v).params = s.params := (congrArg State.params (State.writeReg_frame s n v) :)

@[simp] theorem State.writeReg_failed (s : State) (n : Nat) (v : Int) :
    (s.writeReg n v).failed = s.failed := (congrArg State.failed (State.writeReg_frame s n v) :)

@[simp] theorem State.writeReg_rhReady (s : State) (n : Nat) (v : Int) :
    (s.writeReg n v).rhReady = s.rhReady := (congrArg State.rhReady (State.writeReg_frame s n v) :)

@[simp] theorem State.writeReg_bhReady (s : State) (n : Nat) (v : Int) :
    (s.writeReg n v).bhReady = s.bhReady := (congrArg State.bhReady (State.writeReg_frame s n v) :)

@[simp] theorem State.writeReg_ctValid (s : State) (n : Nat) (v : Int) :
    (s.writeReg n v).ctValid = s.ctValid := (congrArg State.ctValid (State.writeReg_frame s n v) :)

@[simp] theorem State.writeReg_serState (s : State) (n : Nat) (v : Int) :
    (s.writeReg n v).serState = s.serState := (congrArg State.serState (State.writeReg_frame s n v) :)

@[simp] theorem State.writeReg_winHasChecksum (s : State) (n : Nat) (v : Int) :
    (s.writeReg n v).winHasChecksum = s.winHasChecksum := (congrArg State.winHasChecksum (State.writeReg_frame s n v) :)

@[simp] theorem State.writeReg_errCause (s : State) (n : Nat) (v : Int) :
    (s.writeReg n v).errCause = s.errCause := (congrArg State.errCause (State.writeReg_frame s n v) :)

@[simp] theorem State.writeReg_errCmd (s : State) (n : Nat) (v : Int) :
    (s.writeReg n v).errCmd = s.errCmd := (congrArg State.errCmd (State.writeReg_frame s n v) :)

@[simp] theorem State.writeReg_errInfo (s : State) (n : Nat) (v : Int) :
    (s.writeReg n v).errInfo = s.errInfo := (congrArg State.errInfo (State.writeReg_frame s n v) :)

@[simp] theorem State.writeReg_srcSize (s : State) (n : Nat) (v : Int) :
    (s.writeReg n v).srcSize = s.srcSize := (congrArg State.srcSize (State.writeReg_frame s n v) :)

@[simp] theorem State.writeReg_bhStartOffset (s : State) (n : Nat) (v : Int) :
    (s.writeReg n v).bhStartOffset = s.bhStartOffset := (congrArg State.bhStartOffset (State.writeReg_frame s n v) :)

@[simp] theorem State.writeReg_bhLastBlock (s : State) (n : Nat) (v : Int) :
    (s.writeReg n v).bhLastBlock = s.bhLastBlock := (congrArg State.bhLastBlock (State.writeReg_frame s n v) :)

@[simp] theorem State.writeReg_bhLastEnd (s : State) (n : Nat) (v : Int) :
    (s.writeReg n v).bhLastEnd = s.bhLastEnd := (congrArg State.bhLastEnd (State.writeReg_frame s n v) :)

@[simp] theorem State.writeReg_cache (s : State) (n : Nat) (v : Int) :
    (s.writeReg n v).cache = s.cache := (congrArg State.cache (State.writeReg_frame s n v) :)

@[simp] theorem State.writeReg_ctMaxMode (s : State) (n : Nat) (v : Int) :
    (s.writeReg n v).ctMaxMode = s.ctMaxMode := (congrArg State.ctMaxMode (State.writeReg_frame s n v) :)

@[simp] theorem State.writeReg_ct (s : State) (n : Nat) (v : Int) :
    (s.writeReg n v).ct = s.ct := (congrArg State.ct (State.writeReg_frame s n v) :)

@[simp] theorem State.writeReg_interleaved (s : State) (n : Nat) (v : Int) :
    (s.writeReg n v).interleaved = s.interleaved := (congrArg State.interleaved (State.writeReg_frame s n v) :)

@[simp] theorem State.writeReg_checksumOn (s : State) (n : Nat) (v : Int) :
    (s.writeReg n v).checksumOn = s.checksumOn := (congrArg State.checksumOn (State.writeReg_frame s n v) :)

@[simp] theorem State.writeReg_winSrcMode (s : State) (n : Nat) (v : Int) :
    (s.writeReg n v).winSrcMode = s.winSrcMode := (congrArg State.winSrcMode (State.writeReg_frame s n v) :)

@[simp] theorem State.writeReg_winSrcSize (s : State) (n : Nat) (v : Int) :
    (s.writeReg n v).winSrcSize = s.winSrcSize := (congrArg State.winSrcSize (State.writeReg_frame s n v) :)

@[simp] theorem State.writeReg_winSrcPos (s : State) (n : Nat) (v : Int) :
    (s.writeReg n v).winSrcPos = s.winSrcPos := (congrArg State.winSrcPos (State.writeReg_frame s n v) :)

@[simp] theorem State.writeReg_winTargetLen (s : State) (n : Nat) (v : Int) :
    (s.writeReg n v).winTargetLen = s.winTargetLen := (congrArg State.winTargetLen (State.writeReg_frame s n v) :)

@[simp] theorem State.writeReg_winChecksum (s : State) (n : Nat) (v : Int) :
    (s.writeReg n v).winChecksum = s.winChecksum := (congrArg State.winChecksum (State.writeReg_frame s n v) :)

@[simp] theorem State.writeReg_lastOpcodeIndex (s : State) (n : Nat) (v : Int) :
    (s.writeReg n v).lastOpcodeIndex = s.lastOpcodeIndex := (congrArg State.lastOpcodeIndex (State.writeReg_frame s n v) :)

@[simp] theorem State.writeReg_dataLen (s : State) (n : Nat) (v : Int) :
    (s.writeReg n v).dataLen = s.dataLen := (congrArg State.dataLen (State.writeReg_frame s n v) :)

@[simp] theorem State.writeReg_instLen (s : State) (n : Nat) (v : Int) :
    (s.writeReg n v).instLen = s.instLen := (congrArg State.instLen (State.writeReg_frame s n v) :)

@[simp] theorem State.writeReg_addrLen (s : State) (n : Nat) (v : Int) :
    (s.writeReg n v).addrLen = s.addrLen := (congrArg State.addrLen (State.writeReg_frame s n v) :)

@[simp] theorem State.writeReg_outLen (s : State) (n : Nat) (v : Int) :
    (s.writeReg n v).outLen = s.outLen := (congrArg State.outLen (State.writeReg_frame s n v) :)

@[simp] theorem State.writeReg_rhRemove (s : State) (n : Nat) (v : Int) :
    (s.writeReg n v).rhRemove = s.rhRemove := (congrArg State.rhRemove (State.writeReg_frame s n v) :)

@[simp] theorem State.writeReg_bhHead (s : State) (n : Nat) (v : Int) :
    (s.writeReg n v).bhHead = s.bhHead := (congrArg State.bhHead (State.writeReg_frame s n v) :)

@[simp] theorem State.writeReg_bhNext (s : State) (n : Nat) (v : Int) :
    (s.writeReg n v).bhNext = s.bhNext := (congrArg State.bhNext (State.writeReg_frame s n v) :)

@[simp] theorem State.writeReg_src (s : State) (n : Nat) (v : Int) :
    (s.writeReg n v).src = s.src := (congrArg State.src (State.writeReg_frame s n v) :)

@[simp] theorem State.writeReg_tgt (s : State) (n : Nat) (v : Int) :
    (s.writeReg n v).tgt = s.tgt := (congrArg State.tgt (State.writeReg_frame s n v) :)

@[simp] theorem State.writeReg_inp (s : State) (n : Nat) (v : Int) :
    (s.writeReg n v).inp = s.inp := (congrArg State.inp (State.writeReg_frame s n v) :)

@[simp] theorem State.writeReg_data (s : State) (n : Nat) (v : Int) :
    (s.writeReg n v).data = s.data := (congrArg State.data (State.writeReg_frame s n v) :)

@[simp] theorem State.writeReg_inst (s : State) (n : Nat) (v : Int) :
    (s.writeReg n v).inst = s.inst := (congrArg State.inst (State.writeReg_frame s n v) :)

@[simp] theorem State.writeReg_addr (s : State) (n : Nat) (v : Int) :
    (s.writeReg n v).addr = s.addr := (congrArg State.addr (State.writeReg_frame s n v) :)

@[simp] theorem State.writeReg_out (s : State) (n : Nat) (v : Int) :
    (s.writeReg n v).out = s.out := (congrArg State.out (State.writeReg_frame s n v) :)

@[simp] theorem State.writeReg_epoch (s : State) (n : Nat) (v : Int) :
    (s.writeReg n v).epoch = s.epoch := (congrArg State.epoch (State.writeReg_frame s n v) :)

@[simp] theorem State.writeReg_inputs (s : State) (n : Nat) (v : Int) :
    (s.writeReg n v).inputs = s.inputs := (congrArg State.inputs (State.writeReg_frame s n v) :)

@[simp] theorem State.writeReg_responses (s : State) (n : Nat) (v : Int) :
    (s.writeReg n v).responses = s.responses := (congrArg State.responses (State.writeReg_frame s n v) :)

@[simp] theorem State.writeReg_reader (s : State) (n : Nat) (v : Int) :
    (s.writeReg n v).reader = s.reader := (congrArg State.reader (State.writeReg_frame s n v) :)

/-! ### addBlock -/

@[simp] theorem State.addBlock_params (s : State) (k : Nat) :
    (s.addBlock k).params = s.params := rfl

@[simp] theorem State.addBlock_failed (s : State) (k : Nat) :
    (s.addBlock k).failed = s.failed := rfl

@[simp] theorem State.addBlock_rhReady (s : State) (k : Nat) :
    (s.addBlock k).rhReady = s.rhReady := rfl

@[simp] theorem State.addBlock_bhReady (s : State) (k : Nat) :
    (s.addBlock k).bhReady = s.bhReady := rfl

@[simp] theorem State.addBlock_ctValid (s : State) (k : Nat) :
    (s.addBlock k).ctValid = s.ctValid := rfl

@[simp] theorem State.addBlock_serState (s : State) (k : Nat) :
    (s.addBlock k).serState = s.serState := rfl

@[simp] theorem State.addBlock_winHasChecksum (s : State) (k : Nat) :
    (s.addBlock k).winHasChecksum = s.winHasChecksum := rfl

@[simp] theorem State.addBlock_errCause (s : State) (k : Nat) :
    (s.addBlock k).errCause = s.errCause := rfl

@[simp] theorem State.addBlock_errCmd (s : State) (k : Nat) :
    (s.addBlock k).errCmd = s.errCmd := rfl

@[simp] theorem State.addBlock_errInfo (s : State) (k : Nat) :
    (s.addBlock k).errInfo = s.errInfo := rfl

@[simp] theorem State.addBlock_srcSize (s : State) (k : Nat) :
    (s.addBlock k).srcSize = s.srcSize := rfl

@[simp] theorem State.addBlock_bhStartOffset (s : State) (k : Nat) :
    (s.addBlock k).bhStartOffset = s.bhStartOffset := rfl

@[simp] theorem State.addBlock_bhLastBlock (s : State) (k : Nat) :
    (s.addBlock k).bhLastBlock = k := rfl

@[simp] theorem State.addBlock_bhLastEnd (s : State) (k : Nat) :
    (s.addBlock k).bhLastEnd = s.bhLastEnd := rfl

@[simp] theorem State.addBlock_tgtSize (s : State) (k : Nat) :
    (s.addBlock k).tgtSize = s.tgtSize := rfl

@[simp] theorem State.addBlock_tgtLo (s : State) (k : Nat) :
    (s.addBlock k).tgtLo = s.tgtLo := rfl

@[simp] theorem State.addBlock_bmSrc (s : State) (k : Nat) :
    (s.addBlock k).bmSrc = s.bmSrc := rfl

@[simp] theorem State.addBlock_bmTgt (s : State) (k : Nat) :
    (s.addBlock k).bmTgt = s.bmTgt := rfl

@[simp] theorem State.addBlock_bmSize (s : State) (k : Nat) :
    (s.addBlock k).bmSize = s.bmSize := rfl

@[simp] theorem State.addBlock_inCursor (s : State) (k : Nat) :
    (s.addBlock k).inCursor = s.inCursor := rfl

@[simp] theorem State.addBlock_inLimit (s : State) (k : Nat) :
    (s.addBlock k).inLimit = s.inLimit := rfl

@[simp] theorem State.addBlock_cache (s : State) (k : Nat) :
    (s.addBlock k).cache = s.cache := rfl

@[simp] theorem State.addBlock_ctMaxMode (s : State) (k : Nat) :
    (s.addBlock k).ctMaxMode = s.ctMaxMode := rfl

@[simp] theorem State.addBlock_ct (s : State) (k : Nat) :
    (s.addBlock k).ct = s.ct := rfl

@[simp] theorem State.addBlock_interleaved (s : State) (k : Nat) :
    (s.addBlock k).interleaved = s.interleaved := rfl

@[simp] theorem State.addBlock_checksumOn (s : State) (k : Nat) :
    (s.addBlock k).checksumOn = s.checksumOn := rfl

@[simp] theorem State.addBlock_winSrcMode (s : State) (k : Nat) :
    (s.addBlock k).winSrcMode = s.winSrcMode := rfl

@[simp] theorem State.addBlock_winSrcSize (s : State) (k : Nat) :
    (s.addBlock k).winSrcSize = s.winSrcSize := rfl

@[simp] theorem State.addBlock_winSrcPos (s : State) (k : Nat) :
    (s.addBlock k).winSrcPos = s.winSrcPos := rfl

@[simp] theorem State.addBlock_winTargetLen (s : State) (k : Nat) :
    (s.addBlock k).winTargetLen = s.winTargetLen := rfl

@[simp] theorem State.addBlock_winChecksum (s : State) (k : Nat) :
    (s.addBlock k).winChecksum = s.winChecksum := rfl

@[simp] theorem State.addBlock_lastOpcodeIndex (s : State) (k : Nat) :
    (s.addBlock k).lastOpcodeIndex = s.lastOpcodeIndex := rfl

@[simp] theorem State.addBlock_dataLen (s : State) (k : Nat) :
    (s.addBlock k).dataLen = s.dataLen := rfl

@[simp] theorem State.addBlock_instLen (s : State) (k : Nat) :
    (s.addBlock k).instLen = s.instLen := rfl

@[simp] theorem State.addBlock_addrLen (s : State) (k : Nat) :
    (s.addBlock k).addrLen = s.addrLen := rfl

@[simp] theorem State.addBlock_outLen (s : State) (k : Nat) :
    (s.addBlock k).outLen = s.outLen := rfl

@[simp] theorem State.addBlock_rhRemove (s : State) (k : Nat) :
    (s.addBlock k).rhRemove = s.rhRemove := rfl

@[simp] theorem State.addBlock_bhHead (s : State) (k : Nat) :
    (s.addBlock k).bhHead = Sparse.insert (s.bucketAt (k * s.params.b)) k s.bhHead := rfl

@[simp] theorem State.addBlock_bhNext (s : State) (k : Nat) :
    (s.addBlock k).bhNext = setLink s.bhNext k (Sparse.lookup (s.bucketAt (k * s.params.b)) s.bhHead) := rfl

@[simp] theorem State.addBlock_src (s : State) (k : Nat) :
    (s.addBlock k).src = s.src := rfl

@[simp] theorem State.addBlock_tgt (s : State) (k : Nat) :
    (s.addBlock k).tgt = s.tgt := rfl

@[simp] theorem State.addBlock_inp (s : State) (k : Nat) :
    (s.addBlock k).inp = s.inp := rfl

@[simp] theorem State.addBlock_data (s : State) (k : Nat) :
    (s.addBlock k).data = s.data := rfl

@[simp] theorem State.addBlock_inst (s : State) (k : Nat) :
    (s.addBlock k).inst = s.inst := rfl

@[simp] theorem State.addBlock_addr (s : State) (k : Nat) :
    (s.addBlock k).addr = s.addr := rfl

@[simp] theorem State.addBlock_out (s : State) (k : Nat) :
    (s.addBlock k).out = s.out := rfl

@[simp] theorem State.addBlock_epoch (s : State) (k : Nat) :
    (s.addBlock k).epoch = s.epoch := rfl

@[simp] theorem State.addBlock_inputs (s : State) (k : Nat) :
    (s.addBlock k).inputs = s.inputs := rfl

@[simp] theorem State.addBlock_responses (s : State) (k : Nat) :
    (s.addBlock k).responses = s.responses := rfl

@[simp] theorem State.addBlock_reader (s : State) (k : Nat) :
    (s.addBlock k).reader = s.reader := rfl

/-! ### emptyIndex -/

@[simp] theorem State.emptyIndex_params (s : State) (size offset : Nat) :
    (s.emptyIndex size offset).params = s.params := rfl

@[simp] theorem State.emptyIndex_failed (s : State) (size offset : Nat) :
    (s.emptyIndex size offset).failed = s.failed := rfl

@[simp] theorem State.emptyIndex_rhReady (s : State) (size offset : Nat) :
    (s.emptyIndex size offset).rhReady = s.rhReady := rfl

@[simp] theorem State.emptyIndex_bhReady (s : State) (size offset : Nat) :
    (s.emptyIndex size offset).bhReady = true := rfl

@[simp] theorem State.emptyIndex_ctValid (s : State) (size offset : Nat) :
    (s.emptyIndex size offset).ctValid = s.ctValid := rfl

@[simp] theorem State.emptyIndex_serState (s : State) (size offset : Nat) :
    (s.emptyIndex size offset).serState = s.serState := rfl

@[simp] theorem State.emptyIndex_winHasChecksum (s : State) (size offset : Nat) :
    (s.emptyIndex size offset).winHasChecksum = s.winHasChecksum := rfl

@[simp] theorem State.emptyIndex_errCause (s : State) (size offset : Nat) :
    (s.emptyIndex size offset).errCause = s.errCause := rfl

@[simp] theorem State.emptyIndex_errCmd (s : State) (size offset : Nat) :
    (s.emptyIndex size offset).errCmd = s.errCmd := rfl

@[simp] theorem State.emptyIndex_errInfo (s : State) (size offset : Nat) :
    (s.emptyIndex size offset).errInfo = s.errInfo := rfl

@[simp] theorem State.emptyIndex_srcSize (s : State) (size offset : Nat) :
    (s.emptyIndex size offset).srcSize = size := rfl

@[simp] theorem State.emptyIndex_bhStartOffset (s : State) (size offset : Nat) :
    (s.emptyIndex size offset).bhStartOffset = offset := rfl

@[simp] theorem State.emptyIndex_bhLastBlock (s : State) (size offset : Nat) :
    (s.emptyIndex size offset).bhLastBlock = -1 := rfl

@[simp] theorem State.emptyIndex_bhLastEnd (s : State) (size offset : Nat) :
    (s.emptyIndex size offset).bhLastEnd = -1 := rfl

@[simp] theorem State.emptyIndex_tgtSize (s : State) (size offset : Nat) :
    (s.emptyIndex size offset).tgtSize = s.tgtSize := rfl

@[simp] theorem State.emptyIndex_tgtLo (s : State) (size offset : Nat) :
    (s.emptyIndex size offset).tgtLo = s.tgtLo := rfl

@[simp] theorem State.emptyIndex_bmSrc (s : State) (size offset : Nat) :
    (s.emptyIndex size offset).bmSrc = s.bmSrc := rfl

@[simp] theorem State.emptyIndex_bmTgt (s : State) (size offset : Nat) :
    (s.emptyIndex size offset).bmTgt = s.bmTgt := rfl

@[simp] theorem State.emptyIndex_bmSize (s : State) (size offset : Nat) :
    (s.emptyIndex size offset).bmSize = s.bmSize := rfl

@[simp] theorem State.emptyIndex_inCursor (s : State) (size offset : Nat) :
    (s.emptyIndex size offset).inCursor = s.inCursor := rfl

@[simp] theorem State.emptyIndex_inLimit (s : State) (size offset : Nat) :
    (s.emptyIndex size offset).inLimit = s.inLimit := rfl

@[simp] theorem State.emptyIndex_cache (s : State) (size offset : Nat) :
    (s.emptyIndex size offset).cache = s.cache := rfl

@[simp] theorem State.emptyIndex_ctMaxMode (s : State) (size offset : Nat) :
    (s.emptyIndex size offset).ctMaxMode = s.ctMaxMode := rfl

@[simp] theorem State.emptyIndex_ct (s : State) (size offset : Nat) :
    (s.emptyIndex size offset).ct = s.ct := rfl

@[simp] theorem State.emptyIndex_interleaved (s : State) (size offset : Nat) :
    (s.emptyIndex size offset).interleaved = s.interleaved := rfl

@[simp] theorem State.emptyIndex_checksumOn (s : State) (size offset : Nat) :
    (s.emptyIndex size offset).checksumOn = s.checksumOn := rfl

@[simp] theorem State.emptyIndex_winSrcMode (s : State) (size offset : Nat) :
    (s.emptyIndex size offset).winSrcMode = s.winSrcMode := rfl

@[simp] theorem State.emptyIndex_winSrcSize (s : State) (size offset : Nat) :
    (s.emptyIndex size offset).winSrcSize = s.winSrcSize := rfl

@[simp] theorem State.emptyIndex_winSrcPos (s : State) (size offset : Nat) :
    (s.emptyIndex size offset).winSrcPos = s.winSrcPos := rfl

@[simp] theorem State.emptyIndex_winTargetLen (s : State) (size offset : Nat) :
    (s.emptyIndex size offset).winTargetLen = s.winTargetLen := rfl

@[simp] theorem State.emptyIndex_winChecksum (s : State) (size offset : Nat) :
    (s.emptyIndex size offset).winChecksum = s.winChecksum := rfl

@[simp] theorem State.emptyIndex_lastOpcodeIndex (s : State) (size offset : Nat) :
    (s.emptyIndex size offset).lastOpcodeIndex = s.lastOpcodeIndex := rfl

@[simp] theorem State.emptyIndex_dataLen (s : State) (size offset : Nat) :
    (s.emptyIndex size offset).dataLen = s.dataLen := rfl

@[simp] theorem State.emptyIndex_instLen (s : State) (size offset : Nat) :
    (s.emptyIndex size offset).instLen = s.instLen := rfl

@[simp] theorem State.emptyIndex_addrLen (s : State) (size offset : Nat) :
    (s.emptyIndex size offset).addrLen = s.addrLen := rfl

@[simp] theorem State.emptyIndex_outLen (s : State) (size offset : Nat) :
    (s.emptyIndex size offset).outLen = s.outLen := rfl

@[simp] theorem State.emptyIndex_rhRemove (s : State) (size offset : Nat) :
    (s.emptyIndex size offset).rhRemove = s.rhRemove := rfl

@[simp] theorem State.emptyIndex_bhHead (s : State) (size offset : Nat) :
    (s.emptyIndex size offset).bhHead = [] := rfl

@[simp] theorem State.emptyIndex_bhNext (s : State) (size offset : Nat) :
    (s.emptyIndex size offset).bhNext = [] := rfl

@[simp] theorem State.emptyIndex_src (s : State) (size offset : Nat) :
    (s.emptyIndex size offset).src = s.src := rfl

@[simp] theorem State.emptyIndex_tgt (s : State) (size offset : Nat) :
    (s.emptyIndex size offset).tgt = s.tgt := rfl

@[simp] theorem State.emptyIndex_inp (s : State) (size offset : Nat) :
    (s.emptyIndex size offset).inp = s.inp := rfl

@[simp] theorem State.emptyIndex_data (s : State) (size offset : Nat) :
    (s.emptyIndex size offset).data = s.data := rfl

@[simp] theorem State.emptyIndex_inst (s : State) (size offset : Nat) :
    (s.emptyIndex size offset).inst = s.inst := rfl

@[simp] theorem State.emptyIndex_addr (s : State) (size offset : Nat) :
    (s.emptyIndex size offset).addr = s.addr := rfl

@[simp] theorem State.emptyIndex_out (s : State) (size offset : Nat) :
    (s.emptyIndex size offset).out = s.out := rfl

@[simp] theorem State.emptyIndex_epoch (s : State) (size offset : Nat) :
    (s.emptyIndex size offset).epoch = s.epoch := rfl

@[simp] theorem State.emptyIndex_inputs (s : State) (size offset : Nat) :
    (s.emptyIndex size offset).inputs = s.inputs := rfl

@[simp] theorem State.emptyIndex_responses (s : State) (size offset : Nat) :
    (s.emptyIndex size offset).responses = s.responses := rfl

@[simp] theorem State.emptyIndex_reader (s : State) (size offset : Nat) :
    (s.emptyIndex size offset).reader = s.reader := rfl

/-! ### addBlocksThrough -/

/-- Adding blocks writes the index and nothing else. -/
theorem State.addBlocksFrom_frame (s : State) (stop turns k : Nat) :
    { s.addBlocksFrom stop turns k with
      bhHead := s.bhHead, bhNext := s.bhNext, bhLastBlock := s.bhLastBlock } = s := by
  induction turns generalizing s k with
  | zero => rfl
  | succ n ih =>
    unfold State.addBlocksFrom
    split
    · have h := congrArg (fun t : State => { t with
        bhHead := s.bhHead, bhNext := s.bhNext, bhLastBlock := s.bhLastBlock }) (ih (s.addBlock k) (k + 1))
      exact h
    · rfl

/-- Adding blocks writes the index and nothing else. -/
theorem State.addBlocksThrough_frame (s : State) (stop : Nat) :
    { s.addBlocksThrough stop with
      bhHead := s.bhHead, bhNext := s.bhNext, bhLastBlock := s.bhLastBlock } = s := State.addBlocksFrom_frame s stop _ _

@[simp] theorem State.addBlocksThrough_params (s : State) (stop : Nat) :
    (s.addBlocksThrough stop).params = s.params := (congrArg State.params (State.addBlocksThrough_frame s stop) :)

@[simp] theorem State.addBlocksThrough_failed (s : State) (stop : Nat) :
    (s.addBlocksThrough stop).failed = s.failed := (congrArg State.failed (State.addBlocksThrough_frame s stop) :)

@[simp] theorem State.addBlocksThrough_rhReady (s : State) (stop : Nat) :
    (s.addBlocksThrough stop).rhReady = s.rhReady := (congrArg State.rhReady (State.addBlocksThrough_frame s stop) :)

@[simp] theorem State.addBlocksThrough_bhReady (s : State) (stop : Nat) :
    (s.addBlocksThrough stop).bhReady = s.bhReady := (congrArg State.bhReady (State.addBlocksThrough_frame s stop) :)

@[simp] theorem State.addBlocksThrough_ctValid (s : State) (stop : Nat) :
    (s.addBlocksThrough stop).ctValid = s.ctValid := (congrArg State.ctValid (State.addBlocksThrough_frame s stop) :)

@[simp] theorem State.addBlocksThrough_serState (s : State) (stop : Nat) :
    (s.addBlocksThrough stop).serState = s.serState := (congrArg State.serState (State.addBlocksThrough_frame s stop) :)

@[simp] theorem State.addBlocksThrough_winHasChecksum (s : State) (stop : Nat) :
    (s.addBlocksThrough stop).winHasChecksum = s.winHasChecksum := (congrArg State.winHasChecksum (State.addBlocksThrough_frame s stop) :)

@[simp] theorem State.addBlocksThrough_errCause (s : State) (stop : Nat) :
    (s.addBlocksThrough stop).errCause = s.errCause := (congrArg State.errCause (State.addBlocksThrough_frame s stop) :)

@[simp] theorem State.addBlocksThrough_errCmd (s : State) (stop : Nat) :
    (s.addBlocksThrough stop).errCmd = s.errCmd := (congrArg State.errCmd (State.addBlocksThrough_frame s stop) :)

@[simp] theorem State.addBlocksThrough_errInfo (s : State) (stop : Nat) :
    (s.addBlocksThrough stop).errInfo = s.errInfo := (congrArg State.errInfo (State.addBlocksThrough_frame s stop) :)

@[simp] theorem State.addBlocksThrough_srcSize (s : State) (stop : Nat) :
    (s.addBlocksThrough stop).srcSize = s.srcSize := (congrArg State.srcSize (State.addBlocksThrough_frame s stop) :)

@[simp] theorem State.addBlocksThrough_bhStartOffset (s : State) (stop : Nat) :
    (s.addBlocksThrough stop).bhStartOffset = s.bhStartOffset := (congrArg State.bhStartOffset (State.addBlocksThrough_frame s stop) :)

@[simp] theorem State.addBlocksThrough_bhLastEnd (s : State) (stop : Nat) :
    (s.addBlocksThrough stop).bhLastEnd = s.bhLastEnd := (congrArg State.bhLastEnd (State.addBlocksThrough_frame s stop) :)

@[simp] theorem State.addBlocksThrough_tgtSize (s : State) (stop : Nat) :
    (s.addBlocksThrough stop).tgtSize = s.tgtSize := (congrArg State.tgtSize (State.addBlocksThrough_frame s stop) :)

@[simp] theorem State.addBlocksThrough_tgtLo (s : State) (stop : Nat) :
    (s.addBlocksThrough stop).tgtLo = s.tgtLo := (congrArg State.tgtLo (State.addBlocksThrough_frame s stop) :)

@[simp] theorem State.addBlocksThrough_bmSrc (s : State) (stop : Nat) :
    (s.addBlocksThrough stop).bmSrc = s.bmSrc := (congrArg State.bmSrc (State.addBlocksThrough_frame s stop) :)

@[simp] theorem State.addBlocksThrough_bmTgt (s : State) (stop : Nat) :
    (s.addBlocksThrough stop).bmTgt = s.bmTgt := (congrArg State.bmTgt (State.addBlocksThrough_frame s stop) :)

@[simp] theorem State.addBlocksThrough_bmSize (s : State) (stop : Nat) :
    (s.addBlocksThrough stop).bmSize = s.bmSize := (congrArg State.bmSize (State.addBlocksThrough_frame s stop) :)

@[simp] theorem State.addBlocksThrough_inCursor (s : State) (stop : Nat) :
    (s.addBlocksThrough stop).inCursor = s.inCursor := (congrArg State.inCursor (State.addBlocksThrough_frame s stop) :)

@[simp] theorem State.addBlocksThrough_inLimit (s : State) (stop : Nat) :
    (s.addBlocksThrough stop).inLimit = s.inLimit := (congrArg State.inLimit (State.addBlocksThrough_frame s stop) :)

@[simp] theorem State.addBlocksThrough_cache (s : State) (stop : Nat) :
    (s.addBlocksThrough stop).cache = s.cache := (congrArg State.cache (State.addBlocksThrough_frame s stop) :)

@[simp] theorem State.addBlocksThrough_ctMaxMode (s : State) (stop : Nat) :
    (s.addBlocksThrough stop).ctMaxMode = s.ctMaxMode := (congrArg State.ctMaxMode (State.addBlocksThrough_frame s stop) :)

@[simp] theorem State.addBlocksThrough_ct (s : State) (stop : Nat) :
    (s.addBlocksThrough stop).ct = s.ct := (congrArg State.ct (State.addBlocksThrough_frame s stop) :)

@[simp] theorem State.addBlocksThrough_interleaved (s : State) (stop : Nat) :
    (s.addBlocksThrough stop).interleaved = s.interleaved := (congrArg State.interleaved (State.addBlocksThrough_frame s stop) :)

@[simp] theorem State.addBlocksThrough_checksumOn (s : State) (stop : Nat) :
    (s.addBlocksThrough stop).checksumOn = s.checksumOn := (congrArg State.checksumOn (State.addBlocksThrough_frame s stop) :)

@[simp] theorem State.addBlocksThrough_winSrcMode (s : State) (stop : Nat) :
    (s.addBlocksThrough stop).winSrcMode = s.winSrcMode := (congrArg State.winSrcMode (State.addBlocksThrough_frame s stop) :)

@[simp] theorem State.addBlocksThrough_winSrcSize (s : State) (stop : Nat) :
    (s.addBlocksThrough stop).winSrcSize = s.winSrcSize := (congrArg State.winSrcSize (State.addBlocksThrough_frame s stop) :)

@[simp] theorem State.addBlocksThrough_winSrcPos (s : State) (stop : Nat) :
    (s.addBlocksThrough stop).winSrcPos = s.winSrcPos := (congrArg State.winSrcPos (State.addBlocksThrough_frame s stop) :)

@[simp] theorem State.addBlocksThrough_winTargetLen (s : State) (stop : Nat) :
    (s.addBlocksThrough stop).winTargetLen = s.winTargetLen := (congrArg State.winTargetLen (State.addBlocksThrough_frame s stop) :)

@[simp] theorem State.addBlocksThrough_winChecksum (s : State) (stop : Nat) :
    (s.addBlocksThrough stop).winChecksum = s.winChecksum := (congrArg State.winChecksum (State.addBlocksThrough_frame s stop) :)

@[simp] theorem State.addBlocksThrough_lastOpcodeIndex (s : State) (stop : Nat) :
    (s.addBlocksThrough stop).lastOpcodeIndex = s.lastOpcodeIndex := (congrArg State.lastOpcodeIndex (State.addBlocksThrough_frame s stop) :)

@[simp] theorem State.addBlocksThrough_dataLen (s : State) (stop : Nat) :
    (s.addBlocksThrough stop).dataLen = s.dataLen := (congrArg State.dataLen (State.addBlocksThrough_frame s stop) :)

@[simp] theorem State.addBlocksThrough_instLen (s : State) (stop : Nat) :
    (s.addBlocksThrough stop).instLen = s.instLen := (congrArg State.instLen (State.addBlocksThrough_frame s stop) :)

@[simp] theorem State.addBlocksThrough_addrLen (s : State) (stop : Nat) :
    (s.addBlocksThrough stop).addrLen = s.addrLen := (congrArg State.addrLen (State.addBlocksThrough_frame s stop) :)

@[simp] theorem State.addBlocksThrough_outLen (s : State) (stop : Nat) :
    (s.addBlocksThrough stop).outLen = s.outLen := (congrArg State.outLen (State.addBlocksThrough_frame s stop) :)

@[simp] theorem State.addBlocksThrough_rhRemove (s : State) (stop : Nat) :
    (s.addBlocksThrough stop).rhRemove = s.rhRemove := (congrArg State.rhRemove (State.addBlocksThrough_frame s stop) :)

@[simp] theorem State.addBlocksThrough_src (s : State) (stop : Nat) :
    (s.addBlocksThrough stop).src = s.src := (congrArg State.src (State.addBlocksThrough_frame s stop) :)

@[simp] theorem State.addBlocksThrough_tgt (s : State) (stop : Nat) :
    (s.addBlocksThrough stop).tgt = s.tgt := (congrArg State.tgt (State.addBlocksThrough_frame s stop) :)

@[simp] theorem State.addBlocksThrough_inp (s : State) (stop : Nat) :
    (s.addBlocksThrough stop).inp = s.inp := (congrArg State.inp (State.addBlocksThrough_frame s stop) :)

@[simp] theorem State.addBlocksThrough_data (s : State) (stop : Nat) :
    (s.addBlocksThrough stop).data = s.data := (congrArg State.data (State.addBlocksThrough_frame s stop) :)

@[simp] theorem State.addBlocksThrough_inst (s : State) (stop : Nat) :
    (s.addBlocksThrough stop).inst = s.inst := (congrArg State.inst (State.addBlocksThrough_frame s stop) :)

@[simp] theorem State.addBlocksThrough_addr (s : State) (stop : Nat) :
    (s.addBlocksThrough stop).addr = s.addr := (congrArg State.addr (State.addBlocksThrough_frame s stop) :)

@[simp] theorem State.addBlocksThrough_out (s : State) (stop : Nat) :
    (s.addBlocksThrough stop).out = s.out := (congrArg State.out (State.addBlocksThrough_frame s stop) :)

@[simp] theorem State.addBlocksThrough_epoch (s : State) (stop : Nat) :
    (s.addBlocksThrough stop).epoch = s.epoch := (congrArg State.epoch (State.addBlocksThrough_frame s stop) :)

@[simp] theorem State.addBlocksThrough_inputs (s : State) (stop : Nat) :
    (s.addBlocksThrough stop).inputs = s.inputs := (congrArg State.inputs (State.addBlocksThrough_frame s stop) :)

@[simp] theorem State.addBlocksThrough_responses (s : State) (stop : Nat) :
    (s.addBlocksThrough stop).responses = s.responses := (congrArg State.responses (State.addBlocksThrough_frame s stop) :)

@[simp] theorem State.addBlocksThrough_reader (s : State) (stop : Nat) :
    (s.addBlocksThrough stop).reader = s.reader := (congrArg State.reader (State.addBlocksThrough_frame s stop) :)

/-! ### findBest -/

/-- Trying candidates writes the best match and nothing else. -/
theorem State.foldl_tryCandidate_frame (s : State) (tpos : Nat) (ks : List Nat) :
    { ks.foldl (State.tryCandidate tpos) s with
      bmSrc := s.bmSrc, bmTgt := s.bmTgt, bmSize := s.bmSize } = s := by
  induction ks generalizing s with
  | nil => rfl
  | cons k rest ih =>
    have h := congrArg (fun t : State => { t with
      bmSrc := s.bmSrc, bmTgt := s.bmTgt, bmSize := s.bmSize }) (ih (s.tryCandidate tpos k))
    refine Eq.trans h ?_
    simp only [State.tryCandidate]
    split <;> rfl

/-- Searching writes the best match and nothing else. -/
theorem State.findBest_frame (s : State) (hash tpos : Nat) :
    { s.findBest hash tpos with
      bmSrc := s.bmSrc, bmTgt := s.bmTgt, bmSize := s.bmSize } = s := State.foldl_tryCandidate_frame s tpos _

@[simp] theorem State.findBest_params (s : State) (hash tpos : Nat) :
    (s.findBest hash tpos).params = s.params := (congrArg State.params (State.findBest_frame s hash tpos) :)

@[simp] theorem State.findBest_failed (s : State) (hash tpos : Nat) :
    (s.findBest hash tpos).failed = s.failed := (congrArg State.failed (State.findBest_frame s hash tpos) :)

@[simp] theorem State.findBest_rhReady (s : State) (hash tpos : Nat) :
    (s.findBest hash tpos).rhReady = s.rhReady := (congrArg State.rhReady (State.findBest_frame s hash tpos) :)

@[simp] theorem State.findBest_bhReady (s : State) (hash tpos : Nat) :
    (s.findBest hash tpos).bhReady = s.bhReady := (congrArg State.bhReady (State.findBest_frame s hash tpos) :)

@[simp] theorem State.findBest_ctValid (s : State) (hash tpos : Nat) :
    (s.findBest hash tpos).ctValid = s.ctValid := (congrArg State.ctValid (State.findBest_frame s hash tpos) :)

@[simp] theorem State.findBest_serState (s : State) (hash tpos : Nat) :
    (s.findBest hash tpos).serState = s.serState := (congrArg State.serState (State.findBest_frame s hash tpos) :)

@[simp] theorem State.findBest_winHasChecksum (s : State) (hash tpos : Nat) :
    (s.findBest hash tpos).winHasChecksum = s.winHasChecksum := (congrArg State.winHasChecksum (State.findBest_frame s hash tpos) :)

@[simp] theorem State.findBest_errCause (s : State) (hash tpos : Nat) :
    (s.findBest hash tpos).errCause = s.errCause := (congrArg State.errCause (State.findBest_frame s hash tpos) :)

@[simp] theorem State.findBest_errCmd (s : State) (hash tpos : Nat) :
    (s.findBest hash tpos).errCmd = s.errCmd := (congrArg State.errCmd (State.findBest_frame s hash tpos) :)

@[simp] theorem State.findBest_errInfo (s : State) (hash tpos : Nat) :
    (s.findBest hash tpos).errInfo = s.errInfo := (congrArg State.errInfo (State.findBest_frame s hash tpos) :)

@[simp] theorem State.findBest_srcSize (s : State) (hash tpos : Nat) :
    (s.findBest hash tpos).srcSize = s.srcSize := (congrArg State.srcSize (State.findBest_frame s hash tpos) :)

@[simp] theorem State.findBest_bhStartOffset (s : State) (hash tpos : Nat) :
    (s.findBest hash tpos).bhStartOffset = s.bhStartOffset := (congrArg State.bhStartOffset (State.findBest_frame s hash tpos) :)

@[simp] theorem State.findBest_bhLastBlock (s : State) (hash tpos : Nat) :
    (s.findBest hash tpos).bhLastBlock = s.bhLastBlock := (congrArg State.bhLastBlock (State.findBest_frame s hash tpos) :)

@[simp] theorem State.findBest_bhLastEnd (s : State) (hash tpos : Nat) :
    (s.findBest hash tpos).bhLastEnd = s.bhLastEnd := (congrArg State.bhLastEnd (State.findBest_frame s hash tpos) :)

@[simp] theorem State.findBest_tgtSize (s : State) (hash tpos : Nat) :
    (s.findBest hash tpos).tgtSize = s.tgtSize := (congrArg State.tgtSize (State.findBest_frame s hash tpos) :)

@[simp] theorem State.findBest_tgtLo (s : State) (hash tpos : Nat) :
    (s.findBest hash tpos).tgtLo = s.tgtLo := (congrArg State.tgtLo (State.findBest_frame s hash tpos) :)

@[simp] theorem State.findBest_inCursor (s : State) (hash tpos : Nat) :
    (s.findBest hash tpos).inCursor = s.inCursor := (congrArg State.inCursor (State.findBest_frame s hash tpos) :)

@[simp] theorem State.findBest_inLimit (s : State) (hash tpos : Nat) :
    (s.findBest hash tpos).inLimit = s.inLimit := (congrArg State.inLimit (State.findBest_frame s hash tpos) :)

@[simp] theorem State.findBest_cache (s : State) (hash tpos : Nat) :
    (s.findBest hash tpos).cache = s.cache := (congrArg State.cache (State.findBest_frame s hash tpos) :)

@[simp] theorem State.findBest_ctMaxMode (s : State) (hash tpos : Nat) :
    (s.findBest hash tpos).ctMaxMode = s.ctMaxMode := (congrArg State.ctMaxMode (State.findBest_frame s hash tpos) :)

@[simp] theorem State.findBest_ct (s : State) (hash tpos : Nat) :
    (s.findBest hash tpos).ct = s.ct := (congrArg State.ct (State.findBest_frame s hash tpos) :)

@[simp] theorem State.findBest_interleaved (s : State) (hash tpos : Nat) :
    (s.findBest hash tpos).interleaved = s.interleaved := (congrArg State.interleaved (State.findBest_frame s hash tpos) :)

@[simp] theorem State.findBest_checksumOn (s : State) (hash tpos : Nat) :
    (s.findBest hash tpos).checksumOn = s.checksumOn := (congrArg State.checksumOn (State.findBest_frame s hash tpos) :)

@[simp] theorem State.findBest_winSrcMode (s : State) (hash tpos : Nat) :
    (s.findBest hash tpos).winSrcMode = s.winSrcMode := (congrArg State.winSrcMode (State.findBest_frame s hash tpos) :)

@[simp] theorem State.findBest_winSrcSize (s : State) (hash tpos : Nat) :
    (s.findBest hash tpos).winSrcSize = s.winSrcSize := (congrArg State.winSrcSize (State.findBest_frame s hash tpos) :)

@[simp] theorem State.findBest_winSrcPos (s : State) (hash tpos : Nat) :
    (s.findBest hash tpos).winSrcPos = s.winSrcPos := (congrArg State.winSrcPos (State.findBest_frame s hash tpos) :)

@[simp] theorem State.findBest_winTargetLen (s : State) (hash tpos : Nat) :
    (s.findBest hash tpos).winTargetLen = s.winTargetLen := (congrArg State.winTargetLen (State.findBest_frame s hash tpos) :)

@[simp] theorem State.findBest_winChecksum (s : State) (hash tpos : Nat) :
    (s.findBest hash tpos).winChecksum = s.winChecksum := (congrArg State.winChecksum (State.findBest_frame s hash tpos) :)

@[simp] theorem State.findBest_lastOpcodeIndex (s : State) (hash tpos : Nat) :
    (s.findBest hash tpos).lastOpcodeIndex = s.lastOpcodeIndex := (congrArg State.lastOpcodeIndex (State.findBest_frame s hash tpos) :)

@[simp] theorem State.findBest_dataLen (s : State) (hash tpos : Nat) :
    (s.findBest hash tpos).dataLen = s.dataLen := (congrArg State.dataLen (State.findBest_frame s hash tpos) :)

@[simp] theorem State.findBest_instLen (s : State) (hash tpos : Nat) :
    (s.findBest hash tpos).instLen = s.instLen := (congrArg State.instLen (State.findBest_frame s hash tpos) :)

@[simp] theorem State.findBest_addrLen (s : State) (hash tpos : Nat) :
    (s.findBest hash tpos).addrLen = s.addrLen := (congrArg State.addrLen (State.findBest_frame s hash tpos) :)

@[simp] theorem State.findBest_outLen (s : State) (hash tpos : Nat) :
    (s.findBest hash tpos).outLen = s.outLen := (congrArg State.outLen (State.findBest_frame s hash tpos) :)

@[simp] theorem State.findBest_rhRemove (s : State) (hash tpos : Nat) :
    (s.findBest hash tpos).rhRemove = s.rhRemove := (congrArg State.rhRemove (State.findBest_frame s hash tpos) :)

@[simp] theorem State.findBest_bhHead (s : State) (hash tpos : Nat) :
    (s.findBest hash tpos).bhHead = s.bhHead := (congrArg State.bhHead (State.findBest_frame s hash tpos) :)

@[simp] theorem State.findBest_bhNext (s : State) (hash tpos : Nat) :
    (s.findBest hash tpos).bhNext = s.bhNext := (congrArg State.bhNext (State.findBest_frame s hash tpos) :)

@[simp] theorem State.findBest_src (s : State) (hash tpos : Nat) :
    (s.findBest hash tpos).src = s.src := (congrArg State.src (State.findBest_frame s hash tpos) :)

@[simp] theorem State.findBest_tgt (s : State) (hash tpos : Nat) :
    (s.findBest hash tpos).tgt = s.tgt := (congrArg State.tgt (State.findBest_frame s hash tpos) :)

@[simp] theorem State.findBest_inp (s : State) (hash tpos : Nat) :
    (s.findBest hash tpos).inp = s.inp := (congrArg State.inp (State.findBest_frame s hash tpos) :)

@[simp] theorem State.findBest_data (s : State) (hash tpos : Nat) :
    (s.findBest hash tpos).data = s.data := (congrArg State.data (State.findBest_frame s hash tpos) :)

@[simp] theorem State.findBest_inst (s : State) (hash tpos : Nat) :
    (s.findBest hash tpos).inst = s.inst := (congrArg State.inst (State.findBest_frame s hash tpos) :)

@[simp] theorem State.findBest_addr (s : State) (hash tpos : Nat) :
    (s.findBest hash tpos).addr = s.addr := (congrArg State.addr (State.findBest_frame s hash tpos) :)

@[simp] theorem State.findBest_out (s : State) (hash tpos : Nat) :
    (s.findBest hash tpos).out = s.out := (congrArg State.out (State.findBest_frame s hash tpos) :)

@[simp] theorem State.findBest_epoch (s : State) (hash tpos : Nat) :
    (s.findBest hash tpos).epoch = s.epoch := (congrArg State.epoch (State.findBest_frame s hash tpos) :)

@[simp] theorem State.findBest_inputs (s : State) (hash tpos : Nat) :
    (s.findBest hash tpos).inputs = s.inputs := (congrArg State.inputs (State.findBest_frame s hash tpos) :)

@[simp] theorem State.findBest_responses (s : State) (hash tpos : Nat) :
    (s.findBest hash tpos).responses = s.responses := (congrArg State.responses (State.findBest_frame s hash tpos) :)

@[simp] theorem State.findBest_reader (s : State) (hash tpos : Nat) :
    (s.findBest hash tpos).reader = s.reader := (congrArg State.reader (State.findBest_frame s hash tpos) :)

/-! ### setCtEntry -/

@[simp] theorem State.setCtEntry_params (s : State) (op : Nat) (e : CtEntry) :
    (s.setCtEntry op e).params = s.params := rfl

@[simp] theorem State.setCtEntry_failed (s : State) (op : Nat) (e : CtEntry) :
    (s.setCtEntry op e).failed = s.failed := rfl

@[simp] theorem State.setCtEntry_rhReady (s : State) (op : Nat) (e : CtEntry) :
    (s.setCtEntry op e).rhReady = s.rhReady := rfl

@[simp] theorem State.setCtEntry_bhReady (s : State) (op : Nat) (e : CtEntry) :
    (s.setCtEntry op e).bhReady = s.bhReady := rfl

@[simp] theorem State.setCtEntry_ctValid (s : State) (op : Nat) (e : CtEntry) :
    (s.setCtEntry op e).ctValid = s.ctValid := rfl

@[simp] theorem State.setCtEntry_serState (s : State) (op : Nat) (e : CtEntry) :
    (s.setCtEntry op e).serState = s.serState := rfl

@[simp] theorem State.setCtEntry_winHasChecksum (s : State) (op : Nat) (e : CtEntry) :
    (s.setCtEntry op e).winHasChecksum = s.winHasChecksum := rfl

@[simp] theorem State.setCtEntry_errCause (s : State) (op : Nat) (e : CtEntry) :
    (s.setCtEntry op e).errCause = s.errCause := rfl

@[simp] theorem State.setCtEntry_errCmd (s : State) (op : Nat) (e : CtEntry) :
    (s.setCtEntry op e).errCmd = s.errCmd := rfl

@[simp] theorem State.setCtEntry_errInfo (s : State) (op : Nat) (e : CtEntry) :
    (s.setCtEntry op e).errInfo = s.errInfo := rfl

@[simp] theorem State.setCtEntry_srcSize (s : State) (op : Nat) (e : CtEntry) :
    (s.setCtEntry op e).srcSize = s.srcSize := rfl

@[simp] theorem State.setCtEntry_bhStartOffset (s : State) (op : Nat) (e : CtEntry) :
    (s.setCtEntry op e).bhStartOffset = s.bhStartOffset := rfl

@[simp] theorem State.setCtEntry_bhLastBlock (s : State) (op : Nat) (e : CtEntry) :
    (s.setCtEntry op e).bhLastBlock = s.bhLastBlock := rfl

@[simp] theorem State.setCtEntry_bhLastEnd (s : State) (op : Nat) (e : CtEntry) :
    (s.setCtEntry op e).bhLastEnd = s.bhLastEnd := rfl

@[simp] theorem State.setCtEntry_tgtSize (s : State) (op : Nat) (e : CtEntry) :
    (s.setCtEntry op e).tgtSize = s.tgtSize := rfl

@[simp] theorem State.setCtEntry_tgtLo (s : State) (op : Nat) (e : CtEntry) :
    (s.setCtEntry op e).tgtLo = s.tgtLo := rfl

@[simp] theorem State.setCtEntry_bmSrc (s : State) (op : Nat) (e : CtEntry) :
    (s.setCtEntry op e).bmSrc = s.bmSrc := rfl

@[simp] theorem State.setCtEntry_bmTgt (s : State) (op : Nat) (e : CtEntry) :
    (s.setCtEntry op e).bmTgt = s.bmTgt := rfl

@[simp] theorem State.setCtEntry_bmSize (s : State) (op : Nat) (e : CtEntry) :
    (s.setCtEntry op e).bmSize = s.bmSize := rfl

@[simp] theorem State.setCtEntry_inCursor (s : State) (op : Nat) (e : CtEntry) :
    (s.setCtEntry op e).inCursor = s.inCursor := rfl

@[simp] theorem State.setCtEntry_inLimit (s : State) (op : Nat) (e : CtEntry) :
    (s.setCtEntry op e).inLimit = s.inLimit := rfl

@[simp] theorem State.setCtEntry_cache (s : State) (op : Nat) (e : CtEntry) :
    (s.setCtEntry op e).cache = s.cache := rfl

@[simp] theorem State.setCtEntry_ctMaxMode (s : State) (op : Nat) (e : CtEntry) :
    (s.setCtEntry op e).ctMaxMode = s.ctMaxMode := rfl

@[simp] theorem State.setCtEntry_interleaved (s : State) (op : Nat) (e : CtEntry) :
    (s.setCtEntry op e).interleaved = s.interleaved := rfl

@[simp] theorem State.setCtEntry_checksumOn (s : State) (op : Nat) (e : CtEntry) :
    (s.setCtEntry op e).checksumOn = s.checksumOn := rfl

@[simp] theorem State.setCtEntry_winSrcMode (s : State) (op : Nat) (e : CtEntry) :
    (s.setCtEntry op e).winSrcMode = s.winSrcMode := rfl

@[simp] theorem State.setCtEntry_winSrcSize (s : State) (op : Nat) (e : CtEntry) :
    (s.setCtEntry op e).winSrcSize = s.winSrcSize := rfl

@[simp] theorem State.setCtEntry_winSrcPos (s : State) (op : Nat) (e : CtEntry) :
    (s.setCtEntry op e).winSrcPos = s.winSrcPos := rfl

@[simp] theorem State.setCtEntry_winTargetLen (s : State) (op : Nat) (e : CtEntry) :
    (s.setCtEntry op e).winTargetLen = s.winTargetLen := rfl

@[simp] theorem State.setCtEntry_winChecksum (s : State) (op : Nat) (e : CtEntry) :
    (s.setCtEntry op e).winChecksum = s.winChecksum := rfl

@[simp] theorem State.setCtEntry_lastOpcodeIndex (s : State) (op : Nat) (e : CtEntry) :
    (s.setCtEntry op e).lastOpcodeIndex = s.lastOpcodeIndex := rfl

@[simp] theorem State.setCtEntry_dataLen (s : State) (op : Nat) (e : CtEntry) :
    (s.setCtEntry op e).dataLen = s.dataLen := rfl

@[simp] theorem State.setCtEntry_instLen (s : State) (op : Nat) (e : CtEntry) :
    (s.setCtEntry op e).instLen = s.instLen := rfl

@[simp] theorem State.setCtEntry_addrLen (s : State) (op : Nat) (e : CtEntry) :
    (s.setCtEntry op e).addrLen = s.addrLen := rfl

@[simp] theorem State.setCtEntry_outLen (s : State) (op : Nat) (e : CtEntry) :
    (s.setCtEntry op e).outLen = s.outLen := rfl

@[simp] theorem State.setCtEntry_rhRemove (s : State) (op : Nat) (e : CtEntry) :
    (s.setCtEntry op e).rhRemove = s.rhRemove := rfl

@[simp] theorem State.setCtEntry_bhHead (s : State) (op : Nat) (e : CtEntry) :
    (s.setCtEntry op e).bhHead = s.bhHead := rfl

@[simp] theorem State.setCtEntry_bhNext (s : State) (op : Nat) (e : CtEntry) :
    (s.setCtEntry op e).bhNext = s.bhNext := rfl

@[simp] theorem State.setCtEntry_src (s : State) (op : Nat) (e : CtEntry) :
    (s.setCtEntry op e).src = s.src := rfl

@[simp] theorem State.setCtEntry_tgt (s : State) (op : Nat) (e : CtEntry) :
    (s.setCtEntry op e).tgt = s.tgt := rfl

@[simp] theorem State.setCtEntry_inp (s : State) (op : Nat) (e : CtEntry) :
    (s.setCtEntry op e).inp = s.inp := rfl

@[simp] theorem State.setCtEntry_data (s : State) (op : Nat) (e : CtEntry) :
    (s.setCtEntry op e).data = s.data := rfl

@[simp] theorem State.setCtEntry_inst (s : State) (op : Nat) (e : CtEntry) :
    (s.setCtEntry op e).inst = s.inst := rfl

@[simp] theorem State.setCtEntry_addr (s : State) (op : Nat) (e : CtEntry) :
    (s.setCtEntry op e).addr = s.addr := rfl

@[simp] theorem State.setCtEntry_out (s : State) (op : Nat) (e : CtEntry) :
    (s.setCtEntry op e).out = s.out := rfl

@[simp] theorem State.setCtEntry_epoch (s : State) (op : Nat) (e : CtEntry) :
    (s.setCtEntry op e).epoch = s.epoch := rfl

@[simp] theorem State.setCtEntry_inputs (s : State) (op : Nat) (e : CtEntry) :
    (s.setCtEntry op e).inputs = s.inputs := rfl

@[simp] theorem State.setCtEntry_responses (s : State) (op : Nat) (e : CtEntry) :
    (s.setCtEntry op e).responses = s.responses := rfl

@[simp] theorem State.setCtEntry_reader (s : State) (op : Nat) (e : CtEntry) :
    (s.setCtEntry op e).reader = s.reader := rfl

@[simp] theorem State.mem_setMem_self (s : State) (sp : Space) (m : Sparse Byte) : (s.setMem sp m).mem sp = m := by
  cases sp <;> rfl

theorem State.mem_setMem_of_ne (s : State) {sp sp' : Space} (m : Sparse Byte) (h : sp' ≠ sp) :
    (s.setMem sp m).mem sp' = s.mem sp' := by
  cases sp <;> cases sp' <;> first | rfl | exact absurd rfl h

theorem State.mem_writeByte_of_ne (s : State) {sp sp' : Space} (a : Nat) (v : Byte) (h : sp' ≠ sp) :
    (s.writeByte sp a v).mem sp' = s.mem sp' := State.mem_setMem_of_ne s _ h

theorem State.mem_writeBytes_of_ne (s : State) {sp sp' : Space} (a : Nat) (bs : List Byte) (h : sp' ≠ sp) :
    (s.writeBytes sp a bs).mem sp' = s.mem sp' := by
  induction bs generalizing s a with
  | nil => rfl
  | cons v rest ih =>
    exact (ih (s.writeByte sp a v) (a + 1)).trans (State.mem_writeByte_of_ne s a v h)

@[simp] theorem State.mem_setLen (s : State) (sp sp' : Space) (n : Nat) :
    (s.setLen sp n).mem sp' = s.mem sp' := by
  cases sp <;> rfl

@[simp] theorem State.len_setMem (s : State) (sp sp' : Space) (m : Sparse Byte) :
    (s.setMem sp m).len sp' = s.len sp' := by
  cases sp <;> rfl

@[simp] theorem State.len_writeBytes (s : State) (sp sp' : Space) (a : Nat) (bs : List Byte) :
    (s.writeBytes sp a bs).len sp' = s.len sp' := by
  induction bs generalizing s a with
  | nil => rfl
  | cons v rest ih => exact (ih (s.writeByte sp a v) (a + 1)).trans (State.len_setMem s sp sp' _)

theorem State.len_setLen_of_ne (s : State) {sp sp' : Space} (n : Nat) (h : sp' ≠ sp) :
    (s.setLen sp n).len sp' = s.len sp' := by
  cases sp <;> cases sp' <;> first | rfl | exact absurd rfl h

theorem State.mem_append_of_ne (s : State) {sp sp' : Space} (bs : List Byte) (h : sp' ≠ sp) :
    (s.append sp bs).mem sp' = s.mem sp' :=
  (State.mem_setLen _ sp sp' _).trans (State.mem_writeBytes_of_ne s _ bs h)

theorem State.len_append_of_ne (s : State) {sp sp' : Space} (bs : List Byte) (h : sp' ≠ sp) :
    (s.append sp bs).len sp' = s.len sp' :=
  (State.len_setLen_of_ne _ _ h).trans (State.len_writeBytes s sp sp' _ bs)

theorem State.len_append_self (s : State) {sp : Space} (bs : List Byte)
    (h : sp.writable = false) : (s.append sp bs).len sp = s.len sp + bs.length := by
  cases sp <;> first | rfl | cases h

/-! ### rewriteOpcode -/

/-- A rewrite leaves all but INST. -/
theorem State.rewriteOpcode_frame (s : State) (b : Option Byte) :
    { s.rewriteOpcode b with
      inst := s.inst } = s := by cases b <;> rfl

@[simp] theorem State.rewriteOpcode_params (s : State) (b : Option Byte) :
    (s.rewriteOpcode b).params = s.params := (congrArg State.params (State.rewriteOpcode_frame s b) :)

@[simp] theorem State.rewriteOpcode_failed (s : State) (b : Option Byte) :
    (s.rewriteOpcode b).failed = s.failed := (congrArg State.failed (State.rewriteOpcode_frame s b) :)

@[simp] theorem State.rewriteOpcode_rhReady (s : State) (b : Option Byte) :
    (s.rewriteOpcode b).rhReady = s.rhReady := (congrArg State.rhReady (State.rewriteOpcode_frame s b) :)

@[simp] theorem State.rewriteOpcode_bhReady (s : State) (b : Option Byte) :
    (s.rewriteOpcode b).bhReady = s.bhReady := (congrArg State.bhReady (State.rewriteOpcode_frame s b) :)

@[simp] theorem State.rewriteOpcode_ctValid (s : State) (b : Option Byte) :
    (s.rewriteOpcode b).ctValid = s.ctValid := (congrArg State.ctValid (State.rewriteOpcode_frame s b) :)

@[simp] theorem State.rewriteOpcode_serState (s : State) (b : Option Byte) :
    (s.rewriteOpcode b).serState = s.serState := (congrArg State.serState (State.rewriteOpcode_frame s b) :)

@[simp] theorem State.rewriteOpcode_winHasChecksum (s : State) (b : Option Byte) :
    (s.rewriteOpcode b).winHasChecksum = s.winHasChecksum := (congrArg State.winHasChecksum (State.rewriteOpcode_frame s b) :)

@[simp] theorem State.rewriteOpcode_errCause (s : State) (b : Option Byte) :
    (s.rewriteOpcode b).errCause = s.errCause := (congrArg State.errCause (State.rewriteOpcode_frame s b) :)

@[simp] theorem State.rewriteOpcode_errCmd (s : State) (b : Option Byte) :
    (s.rewriteOpcode b).errCmd = s.errCmd := (congrArg State.errCmd (State.rewriteOpcode_frame s b) :)

@[simp] theorem State.rewriteOpcode_errInfo (s : State) (b : Option Byte) :
    (s.rewriteOpcode b).errInfo = s.errInfo := (congrArg State.errInfo (State.rewriteOpcode_frame s b) :)

@[simp] theorem State.rewriteOpcode_srcSize (s : State) (b : Option Byte) :
    (s.rewriteOpcode b).srcSize = s.srcSize := (congrArg State.srcSize (State.rewriteOpcode_frame s b) :)

@[simp] theorem State.rewriteOpcode_bhStartOffset (s : State) (b : Option Byte) :
    (s.rewriteOpcode b).bhStartOffset = s.bhStartOffset := (congrArg State.bhStartOffset (State.rewriteOpcode_frame s b) :)

@[simp] theorem State.rewriteOpcode_bhLastBlock (s : State) (b : Option Byte) :
    (s.rewriteOpcode b).bhLastBlock = s.bhLastBlock := (congrArg State.bhLastBlock (State.rewriteOpcode_frame s b) :)

@[simp] theorem State.rewriteOpcode_bhLastEnd (s : State) (b : Option Byte) :
    (s.rewriteOpcode b).bhLastEnd = s.bhLastEnd := (congrArg State.bhLastEnd (State.rewriteOpcode_frame s b) :)

@[simp] theorem State.rewriteOpcode_tgtSize (s : State) (b : Option Byte) :
    (s.rewriteOpcode b).tgtSize = s.tgtSize := (congrArg State.tgtSize (State.rewriteOpcode_frame s b) :)

@[simp] theorem State.rewriteOpcode_tgtLo (s : State) (b : Option Byte) :
    (s.rewriteOpcode b).tgtLo = s.tgtLo := (congrArg State.tgtLo (State.rewriteOpcode_frame s b) :)

@[simp] theorem State.rewriteOpcode_bmSrc (s : State) (b : Option Byte) :
    (s.rewriteOpcode b).bmSrc = s.bmSrc := (congrArg State.bmSrc (State.rewriteOpcode_frame s b) :)

@[simp] theorem State.rewriteOpcode_bmTgt (s : State) (b : Option Byte) :
    (s.rewriteOpcode b).bmTgt = s.bmTgt := (congrArg State.bmTgt (State.rewriteOpcode_frame s b) :)

@[simp] theorem State.rewriteOpcode_bmSize (s : State) (b : Option Byte) :
    (s.rewriteOpcode b).bmSize = s.bmSize := (congrArg State.bmSize (State.rewriteOpcode_frame s b) :)

@[simp] theorem State.rewriteOpcode_inCursor (s : State) (b : Option Byte) :
    (s.rewriteOpcode b).inCursor = s.inCursor := (congrArg State.inCursor (State.rewriteOpcode_frame s b) :)

@[simp] theorem State.rewriteOpcode_inLimit (s : State) (b : Option Byte) :
    (s.rewriteOpcode b).inLimit = s.inLimit := (congrArg State.inLimit (State.rewriteOpcode_frame s b) :)

@[simp] theorem State.rewriteOpcode_cache (s : State) (b : Option Byte) :
    (s.rewriteOpcode b).cache = s.cache := (congrArg State.cache (State.rewriteOpcode_frame s b) :)

@[simp] theorem State.rewriteOpcode_ctMaxMode (s : State) (b : Option Byte) :
    (s.rewriteOpcode b).ctMaxMode = s.ctMaxMode := (congrArg State.ctMaxMode (State.rewriteOpcode_frame s b) :)

@[simp] theorem State.rewriteOpcode_ct (s : State) (b : Option Byte) :
    (s.rewriteOpcode b).ct = s.ct := (congrArg State.ct (State.rewriteOpcode_frame s b) :)

@[simp] theorem State.rewriteOpcode_interleaved (s : State) (b : Option Byte) :
    (s.rewriteOpcode b).interleaved = s.interleaved := (congrArg State.interleaved (State.rewriteOpcode_frame s b) :)

@[simp] theorem State.rewriteOpcode_checksumOn (s : State) (b : Option Byte) :
    (s.rewriteOpcode b).checksumOn = s.checksumOn := (congrArg State.checksumOn (State.rewriteOpcode_frame s b) :)

@[simp] theorem State.rewriteOpcode_winSrcMode (s : State) (b : Option Byte) :
    (s.rewriteOpcode b).winSrcMode = s.winSrcMode := (congrArg State.winSrcMode (State.rewriteOpcode_frame s b) :)

@[simp] theorem State.rewriteOpcode_winSrcSize (s : State) (b : Option Byte) :
    (s.rewriteOpcode b).winSrcSize = s.winSrcSize := (congrArg State.winSrcSize (State.rewriteOpcode_frame s b) :)

@[simp] theorem State.rewriteOpcode_winSrcPos (s : State) (b : Option Byte) :
    (s.rewriteOpcode b).winSrcPos = s.winSrcPos := (congrArg State.winSrcPos (State.rewriteOpcode_frame s b) :)

@[simp] theorem State.rewriteOpcode_winTargetLen (s : State) (b : Option Byte) :
    (s.rewriteOpcode b).winTargetLen = s.winTargetLen := (congrArg State.winTargetLen (State.rewriteOpcode_frame s b) :)

@[simp] theorem State.rewriteOpcode_winChecksum (s : State) (b : Option Byte) :
    (s.rewriteOpcode b).winChecksum = s.winChecksum := (congrArg State.winChecksum (State.rewriteOpcode_frame s b) :)

@[simp] theorem State.rewriteOpcode_lastOpcodeIndex (s : State) (b : Option Byte) :
    (s.rewriteOpcode b).lastOpcodeIndex = s.lastOpcodeIndex := (congrArg State.lastOpcodeIndex (State.rewriteOpcode_frame s b) :)

@[simp] theorem State.rewriteOpcode_dataLen (s : State) (b : Option Byte) :
    (s.rewriteOpcode b).dataLen = s.dataLen := (congrArg State.dataLen (State.rewriteOpcode_frame s b) :)

@[simp] theorem State.rewriteOpcode_instLen (s : State) (b : Option Byte) :
    (s.rewriteOpcode b).instLen = s.instLen := (congrArg State.instLen (State.rewriteOpcode_frame s b) :)

@[simp] theorem State.rewriteOpcode_addrLen (s : State) (b : Option Byte) :
    (s.rewriteOpcode b).addrLen = s.addrLen := (congrArg State.addrLen (State.rewriteOpcode_frame s b) :)

@[simp] theorem State.rewriteOpcode_outLen (s : State) (b : Option Byte) :
    (s.rewriteOpcode b).outLen = s.outLen := (congrArg State.outLen (State.rewriteOpcode_frame s b) :)

@[simp] theorem State.rewriteOpcode_rhRemove (s : State) (b : Option Byte) :
    (s.rewriteOpcode b).rhRemove = s.rhRemove := (congrArg State.rhRemove (State.rewriteOpcode_frame s b) :)

@[simp] theorem State.rewriteOpcode_bhHead (s : State) (b : Option Byte) :
    (s.rewriteOpcode b).bhHead = s.bhHead := (congrArg State.bhHead (State.rewriteOpcode_frame s b) :)

@[simp] theorem State.rewriteOpcode_bhNext (s : State) (b : Option Byte) :
    (s.rewriteOpcode b).bhNext = s.bhNext := (congrArg State.bhNext (State.rewriteOpcode_frame s b) :)

@[simp] theorem State.rewriteOpcode_src (s : State) (b : Option Byte) :
    (s.rewriteOpcode b).src = s.src := (congrArg State.src (State.rewriteOpcode_frame s b) :)

@[simp] theorem State.rewriteOpcode_tgt (s : State) (b : Option Byte) :
    (s.rewriteOpcode b).tgt = s.tgt := (congrArg State.tgt (State.rewriteOpcode_frame s b) :)

@[simp] theorem State.rewriteOpcode_inp (s : State) (b : Option Byte) :
    (s.rewriteOpcode b).inp = s.inp := (congrArg State.inp (State.rewriteOpcode_frame s b) :)

@[simp] theorem State.rewriteOpcode_data (s : State) (b : Option Byte) :
    (s.rewriteOpcode b).data = s.data := (congrArg State.data (State.rewriteOpcode_frame s b) :)

@[simp] theorem State.rewriteOpcode_addr (s : State) (b : Option Byte) :
    (s.rewriteOpcode b).addr = s.addr := (congrArg State.addr (State.rewriteOpcode_frame s b) :)

@[simp] theorem State.rewriteOpcode_out (s : State) (b : Option Byte) :
    (s.rewriteOpcode b).out = s.out := (congrArg State.out (State.rewriteOpcode_frame s b) :)

@[simp] theorem State.rewriteOpcode_epoch (s : State) (b : Option Byte) :
    (s.rewriteOpcode b).epoch = s.epoch := (congrArg State.epoch (State.rewriteOpcode_frame s b) :)

@[simp] theorem State.rewriteOpcode_inputs (s : State) (b : Option Byte) :
    (s.rewriteOpcode b).inputs = s.inputs := (congrArg State.inputs (State.rewriteOpcode_frame s b) :)

@[simp] theorem State.rewriteOpcode_responses (s : State) (b : Option Byte) :
    (s.rewriteOpcode b).responses = s.responses := (congrArg State.responses (State.rewriteOpcode_frame s b) :)

@[simp] theorem State.rewriteOpcode_reader (s : State) (b : Option Byte) :
    (s.rewriteOpcode b).reader = s.reader := (congrArg State.reader (State.rewriteOpcode_frame s b) :)

/-! ### commit -/

@[simp] theorem State.commit_params (s : State) (p : Plan) :
    (s.commit p).params = s.params := 
  (State.append_params (s.rewriteOpcode p.rewrite) .inst p.bytes).trans
    (State.rewriteOpcode_params s p.rewrite)

@[simp] theorem State.commit_failed (s : State) (p : Plan) :
    (s.commit p).failed = s.failed := 
  (State.append_failed (s.rewriteOpcode p.rewrite) .inst p.bytes).trans
    (State.rewriteOpcode_failed s p.rewrite)

@[simp] theorem State.commit_rhReady (s : State) (p : Plan) :
    (s.commit p).rhReady = s.rhReady := 
  (State.append_rhReady (s.rewriteOpcode p.rewrite) .inst p.bytes).trans
    (State.rewriteOpcode_rhReady s p.rewrite)

@[simp] theorem State.commit_bhReady (s : State) (p : Plan) :
    (s.commit p).bhReady = s.bhReady := 
  (State.append_bhReady (s.rewriteOpcode p.rewrite) .inst p.bytes).trans
    (State.rewriteOpcode_bhReady s p.rewrite)

@[simp] theorem State.commit_ctValid (s : State) (p : Plan) :
    (s.commit p).ctValid = s.ctValid := 
  (State.append_ctValid (s.rewriteOpcode p.rewrite) .inst p.bytes).trans
    (State.rewriteOpcode_ctValid s p.rewrite)

@[simp] theorem State.commit_serState (s : State) (p : Plan) :
    (s.commit p).serState = s.serState := 
  (State.append_serState (s.rewriteOpcode p.rewrite) .inst p.bytes).trans
    (State.rewriteOpcode_serState s p.rewrite)

@[simp] theorem State.commit_winHasChecksum (s : State) (p : Plan) :
    (s.commit p).winHasChecksum = s.winHasChecksum := 
  (State.append_winHasChecksum (s.rewriteOpcode p.rewrite) .inst p.bytes).trans
    (State.rewriteOpcode_winHasChecksum s p.rewrite)

@[simp] theorem State.commit_errCause (s : State) (p : Plan) :
    (s.commit p).errCause = s.errCause := 
  (State.append_errCause (s.rewriteOpcode p.rewrite) .inst p.bytes).trans
    (State.rewriteOpcode_errCause s p.rewrite)

@[simp] theorem State.commit_errCmd (s : State) (p : Plan) :
    (s.commit p).errCmd = s.errCmd := 
  (State.append_errCmd (s.rewriteOpcode p.rewrite) .inst p.bytes).trans
    (State.rewriteOpcode_errCmd s p.rewrite)

@[simp] theorem State.commit_errInfo (s : State) (p : Plan) :
    (s.commit p).errInfo = s.errInfo := 
  (State.append_errInfo (s.rewriteOpcode p.rewrite) .inst p.bytes).trans
    (State.rewriteOpcode_errInfo s p.rewrite)

@[simp] theorem State.commit_srcSize (s : State) (p : Plan) :
    (s.commit p).srcSize = s.srcSize := 
  (State.append_srcSize (s.rewriteOpcode p.rewrite) .inst p.bytes).trans
    (State.rewriteOpcode_srcSize s p.rewrite)

@[simp] theorem State.commit_bhStartOffset (s : State) (p : Plan) :
    (s.commit p).bhStartOffset = s.bhStartOffset := 
  (State.append_bhStartOffset (s.rewriteOpcode p.rewrite) .inst p.bytes).trans
    (State.rewriteOpcode_bhStartOffset s p.rewrite)

@[simp] theorem State.commit_bhLastBlock (s : State) (p : Plan) :
    (s.commit p).bhLastBlock = s.bhLastBlock := 
  (State.append_bhLastBlock (s.rewriteOpcode p.rewrite) .inst p.bytes).trans
    (State.rewriteOpcode_bhLastBlock s p.rewrite)

@[simp] theorem State.commit_bhLastEnd (s : State) (p : Plan) :
    (s.commit p).bhLastEnd = s.bhLastEnd := 
  (State.append_bhLastEnd (s.rewriteOpcode p.rewrite) .inst p.bytes).trans
    (State.rewriteOpcode_bhLastEnd s p.rewrite)

@[simp] theorem State.commit_tgtSize (s : State) (p : Plan) :
    (s.commit p).tgtSize = s.tgtSize := 
  (State.append_tgtSize (s.rewriteOpcode p.rewrite) .inst p.bytes).trans
    (State.rewriteOpcode_tgtSize s p.rewrite)

@[simp] theorem State.commit_tgtLo (s : State) (p : Plan) :
    (s.commit p).tgtLo = s.tgtLo := 
  (State.append_tgtLo (s.rewriteOpcode p.rewrite) .inst p.bytes).trans
    (State.rewriteOpcode_tgtLo s p.rewrite)

@[simp] theorem State.commit_bmSrc (s : State) (p : Plan) :
    (s.commit p).bmSrc = s.bmSrc := 
  (State.append_bmSrc (s.rewriteOpcode p.rewrite) .inst p.bytes).trans
    (State.rewriteOpcode_bmSrc s p.rewrite)

@[simp] theorem State.commit_bmTgt (s : State) (p : Plan) :
    (s.commit p).bmTgt = s.bmTgt := 
  (State.append_bmTgt (s.rewriteOpcode p.rewrite) .inst p.bytes).trans
    (State.rewriteOpcode_bmTgt s p.rewrite)

@[simp] theorem State.commit_bmSize (s : State) (p : Plan) :
    (s.commit p).bmSize = s.bmSize := 
  (State.append_bmSize (s.rewriteOpcode p.rewrite) .inst p.bytes).trans
    (State.rewriteOpcode_bmSize s p.rewrite)

@[simp] theorem State.commit_inCursor (s : State) (p : Plan) :
    (s.commit p).inCursor = s.inCursor := 
  (State.append_inCursor (s.rewriteOpcode p.rewrite) .inst p.bytes).trans
    (State.rewriteOpcode_inCursor s p.rewrite)

@[simp] theorem State.commit_inLimit (s : State) (p : Plan) :
    (s.commit p).inLimit = s.inLimit := 
  (State.append_inLimit (s.rewriteOpcode p.rewrite) .inst p.bytes).trans
    (State.rewriteOpcode_inLimit s p.rewrite)

@[simp] theorem State.commit_cache (s : State) (p : Plan) :
    (s.commit p).cache = s.cache := 
  (State.append_cache (s.rewriteOpcode p.rewrite) .inst p.bytes).trans
    (State.rewriteOpcode_cache s p.rewrite)

@[simp] theorem State.commit_ctMaxMode (s : State) (p : Plan) :
    (s.commit p).ctMaxMode = s.ctMaxMode := 
  (State.append_ctMaxMode (s.rewriteOpcode p.rewrite) .inst p.bytes).trans
    (State.rewriteOpcode_ctMaxMode s p.rewrite)

@[simp] theorem State.commit_ct (s : State) (p : Plan) :
    (s.commit p).ct = s.ct := 
  (State.append_ct (s.rewriteOpcode p.rewrite) .inst p.bytes).trans
    (State.rewriteOpcode_ct s p.rewrite)

@[simp] theorem State.commit_interleaved (s : State) (p : Plan) :
    (s.commit p).interleaved = s.interleaved := 
  (State.append_interleaved (s.rewriteOpcode p.rewrite) .inst p.bytes).trans
    (State.rewriteOpcode_interleaved s p.rewrite)

@[simp] theorem State.commit_checksumOn (s : State) (p : Plan) :
    (s.commit p).checksumOn = s.checksumOn := 
  (State.append_checksumOn (s.rewriteOpcode p.rewrite) .inst p.bytes).trans
    (State.rewriteOpcode_checksumOn s p.rewrite)

@[simp] theorem State.commit_winSrcMode (s : State) (p : Plan) :
    (s.commit p).winSrcMode = s.winSrcMode := 
  (State.append_winSrcMode (s.rewriteOpcode p.rewrite) .inst p.bytes).trans
    (State.rewriteOpcode_winSrcMode s p.rewrite)

@[simp] theorem State.commit_winSrcSize (s : State) (p : Plan) :
    (s.commit p).winSrcSize = s.winSrcSize := 
  (State.append_winSrcSize (s.rewriteOpcode p.rewrite) .inst p.bytes).trans
    (State.rewriteOpcode_winSrcSize s p.rewrite)

@[simp] theorem State.commit_winSrcPos (s : State) (p : Plan) :
    (s.commit p).winSrcPos = s.winSrcPos := 
  (State.append_winSrcPos (s.rewriteOpcode p.rewrite) .inst p.bytes).trans
    (State.rewriteOpcode_winSrcPos s p.rewrite)

@[simp] theorem State.commit_winTargetLen (s : State) (p : Plan) :
    (s.commit p).winTargetLen = s.winTargetLen := 
  (State.append_winTargetLen (s.rewriteOpcode p.rewrite) .inst p.bytes).trans
    (State.rewriteOpcode_winTargetLen s p.rewrite)

@[simp] theorem State.commit_winChecksum (s : State) (p : Plan) :
    (s.commit p).winChecksum = s.winChecksum := 
  (State.append_winChecksum (s.rewriteOpcode p.rewrite) .inst p.bytes).trans
    (State.rewriteOpcode_winChecksum s p.rewrite)

@[simp] theorem State.commit_dataLen (s : State) (p : Plan) :
    (s.commit p).dataLen = s.dataLen := 
  (State.len_append_of_ne (s.rewriteOpcode p.rewrite) (sp := .inst) (sp' := .data) p.bytes (fun h => Space.noConfusion h)).trans
    (State.rewriteOpcode_dataLen s p.rewrite)

@[simp] theorem State.commit_addrLen (s : State) (p : Plan) :
    (s.commit p).addrLen = s.addrLen := 
  (State.len_append_of_ne (s.rewriteOpcode p.rewrite) (sp := .inst) (sp' := .addr) p.bytes (fun h => Space.noConfusion h)).trans
    (State.rewriteOpcode_addrLen s p.rewrite)

@[simp] theorem State.commit_outLen (s : State) (p : Plan) :
    (s.commit p).outLen = s.outLen := 
  (State.len_append_of_ne (s.rewriteOpcode p.rewrite) (sp := .inst) (sp' := .out) p.bytes (fun h => Space.noConfusion h)).trans
    (State.rewriteOpcode_outLen s p.rewrite)

@[simp] theorem State.commit_rhRemove (s : State) (p : Plan) :
    (s.commit p).rhRemove = s.rhRemove := 
  (State.append_rhRemove (s.rewriteOpcode p.rewrite) .inst p.bytes).trans
    (State.rewriteOpcode_rhRemove s p.rewrite)

@[simp] theorem State.commit_bhHead (s : State) (p : Plan) :
    (s.commit p).bhHead = s.bhHead := 
  (State.append_bhHead (s.rewriteOpcode p.rewrite) .inst p.bytes).trans
    (State.rewriteOpcode_bhHead s p.rewrite)

@[simp] theorem State.commit_bhNext (s : State) (p : Plan) :
    (s.commit p).bhNext = s.bhNext := 
  (State.append_bhNext (s.rewriteOpcode p.rewrite) .inst p.bytes).trans
    (State.rewriteOpcode_bhNext s p.rewrite)

@[simp] theorem State.commit_src (s : State) (p : Plan) :
    (s.commit p).src = s.src := 
  (State.mem_append_of_ne (s.rewriteOpcode p.rewrite) (sp := .inst) (sp' := .src) p.bytes (fun h => Space.noConfusion h)).trans
    (State.rewriteOpcode_src s p.rewrite)

@[simp] theorem State.commit_tgt (s : State) (p : Plan) :
    (s.commit p).tgt = s.tgt := 
  (State.mem_append_of_ne (s.rewriteOpcode p.rewrite) (sp := .inst) (sp' := .tgt) p.bytes (fun h => Space.noConfusion h)).trans
    (State.rewriteOpcode_tgt s p.rewrite)

@[simp] theorem State.commit_inp (s : State) (p : Plan) :
    (s.commit p).inp = s.inp := 
  (State.mem_append_of_ne (s.rewriteOpcode p.rewrite) (sp := .inst) (sp' := .inp) p.bytes (fun h => Space.noConfusion h)).trans
    (State.rewriteOpcode_inp s p.rewrite)

@[simp] theorem State.commit_data (s : State) (p : Plan) :
    (s.commit p).data = s.data := 
  (State.mem_append_of_ne (s.rewriteOpcode p.rewrite) (sp := .inst) (sp' := .data) p.bytes (fun h => Space.noConfusion h)).trans
    (State.rewriteOpcode_data s p.rewrite)

@[simp] theorem State.commit_addr (s : State) (p : Plan) :
    (s.commit p).addr = s.addr := 
  (State.mem_append_of_ne (s.rewriteOpcode p.rewrite) (sp := .inst) (sp' := .addr) p.bytes (fun h => Space.noConfusion h)).trans
    (State.rewriteOpcode_addr s p.rewrite)

@[simp] theorem State.commit_out (s : State) (p : Plan) :
    (s.commit p).out = s.out := 
  (State.mem_append_of_ne (s.rewriteOpcode p.rewrite) (sp := .inst) (sp' := .out) p.bytes (fun h => Space.noConfusion h)).trans
    (State.rewriteOpcode_out s p.rewrite)

@[simp] theorem State.commit_epoch (s : State) (p : Plan) :
    (s.commit p).epoch = s.epoch := 
  (State.append_epoch (s.rewriteOpcode p.rewrite) .inst p.bytes).trans
    (State.rewriteOpcode_epoch s p.rewrite)

@[simp] theorem State.commit_inputs (s : State) (p : Plan) :
    (s.commit p).inputs = s.inputs := 
  (State.append_inputs (s.rewriteOpcode p.rewrite) .inst p.bytes).trans
    (State.rewriteOpcode_inputs s p.rewrite)

@[simp] theorem State.commit_responses (s : State) (p : Plan) :
    (s.commit p).responses = s.responses := 
  (State.append_responses (s.rewriteOpcode p.rewrite) .inst p.bytes).trans
    (State.rewriteOpcode_responses s p.rewrite)

@[simp] theorem State.commit_reader (s : State) (p : Plan) :
    (s.commit p).reader = s.reader := 
  (State.append_reader (s.rewriteOpcode p.rewrite) .inst p.bytes).trans
    (State.rewriteOpcode_reader s p.rewrite)

@[simp] theorem State.commit_instLen (s : State) (p : Plan) :
    (s.commit p).instLen = s.instLen + p.bytes.length :=
  (State.len_append_self (s.rewriteOpcode p.rewrite) (sp := .inst) p.bytes rfl).trans
    (congrArg (· + p.bytes.length) (State.rewriteOpcode_instLen s p.rewrite))

@[simp] theorem State.commit_lastOpcodeIndex (s : State) (p : Plan) :
    (s.commit p).lastOpcodeIndex = p.newLast := rfl

/-! ### accumulate -/

@[simp] theorem State.accumulate_params (s : State) (p : Plan) (sp : Space) (bs : List Byte)
    (size : Nat) :
    (s.accumulate p sp bs size).params = s.params := 
  (State.append_params (s.commit p) (s.sink sp) bs).trans (State.commit_params s p)

@[simp] theorem State.accumulate_failed (s : State) (p : Plan) (sp : Space) (bs : List Byte)
    (size : Nat) :
    (s.accumulate p sp bs size).failed = s.failed := 
  (State.append_failed (s.commit p) (s.sink sp) bs).trans (State.commit_failed s p)

@[simp] theorem State.accumulate_rhReady (s : State) (p : Plan) (sp : Space) (bs : List Byte)
    (size : Nat) :
    (s.accumulate p sp bs size).rhReady = s.rhReady := 
  (State.append_rhReady (s.commit p) (s.sink sp) bs).trans (State.commit_rhReady s p)

@[simp] theorem State.accumulate_bhReady (s : State) (p : Plan) (sp : Space) (bs : List Byte)
    (size : Nat) :
    (s.accumulate p sp bs size).bhReady = s.bhReady := 
  (State.append_bhReady (s.commit p) (s.sink sp) bs).trans (State.commit_bhReady s p)

@[simp] theorem State.accumulate_ctValid (s : State) (p : Plan) (sp : Space) (bs : List Byte)
    (size : Nat) :
    (s.accumulate p sp bs size).ctValid = s.ctValid := 
  (State.append_ctValid (s.commit p) (s.sink sp) bs).trans (State.commit_ctValid s p)

@[simp] theorem State.accumulate_winHasChecksum (s : State) (p : Plan) (sp : Space) (bs : List Byte)
    (size : Nat) :
    (s.accumulate p sp bs size).winHasChecksum = s.winHasChecksum := 
  (State.append_winHasChecksum (s.commit p) (s.sink sp) bs).trans (State.commit_winHasChecksum s p)

@[simp] theorem State.accumulate_errCause (s : State) (p : Plan) (sp : Space) (bs : List Byte)
    (size : Nat) :
    (s.accumulate p sp bs size).errCause = s.errCause := 
  (State.append_errCause (s.commit p) (s.sink sp) bs).trans (State.commit_errCause s p)

@[simp] theorem State.accumulate_errCmd (s : State) (p : Plan) (sp : Space) (bs : List Byte)
    (size : Nat) :
    (s.accumulate p sp bs size).errCmd = s.errCmd := 
  (State.append_errCmd (s.commit p) (s.sink sp) bs).trans (State.commit_errCmd s p)

@[simp] theorem State.accumulate_errInfo (s : State) (p : Plan) (sp : Space) (bs : List Byte)
    (size : Nat) :
    (s.accumulate p sp bs size).errInfo = s.errInfo := 
  (State.append_errInfo (s.commit p) (s.sink sp) bs).trans (State.commit_errInfo s p)

@[simp] theorem State.accumulate_srcSize (s : State) (p : Plan) (sp : Space) (bs : List Byte)
    (size : Nat) :
    (s.accumulate p sp bs size).srcSize = s.srcSize := 
  (State.append_srcSize (s.commit p) (s.sink sp) bs).trans (State.commit_srcSize s p)

@[simp] theorem State.accumulate_bhStartOffset (s : State) (p : Plan) (sp : Space) (bs : List Byte)
    (size : Nat) :
    (s.accumulate p sp bs size).bhStartOffset = s.bhStartOffset := 
  (State.append_bhStartOffset (s.commit p) (s.sink sp) bs).trans (State.commit_bhStartOffset s p)

@[simp] theorem State.accumulate_bhLastBlock (s : State) (p : Plan) (sp : Space) (bs : List Byte)
    (size : Nat) :
    (s.accumulate p sp bs size).bhLastBlock = s.bhLastBlock := 
  (State.append_bhLastBlock (s.commit p) (s.sink sp) bs).trans (State.commit_bhLastBlock s p)

@[simp] theorem State.accumulate_bhLastEnd (s : State) (p : Plan) (sp : Space) (bs : List Byte)
    (size : Nat) :
    (s.accumulate p sp bs size).bhLastEnd = s.bhLastEnd := 
  (State.append_bhLastEnd (s.commit p) (s.sink sp) bs).trans (State.commit_bhLastEnd s p)

@[simp] theorem State.accumulate_tgtSize (s : State) (p : Plan) (sp : Space) (bs : List Byte)
    (size : Nat) :
    (s.accumulate p sp bs size).tgtSize = s.tgtSize := 
  (State.append_tgtSize (s.commit p) (s.sink sp) bs).trans (State.commit_tgtSize s p)

@[simp] theorem State.accumulate_tgtLo (s : State) (p : Plan) (sp : Space) (bs : List Byte)
    (size : Nat) :
    (s.accumulate p sp bs size).tgtLo = s.tgtLo := 
  (State.append_tgtLo (s.commit p) (s.sink sp) bs).trans (State.commit_tgtLo s p)

@[simp] theorem State.accumulate_bmSrc (s : State) (p : Plan) (sp : Space) (bs : List Byte)
    (size : Nat) :
    (s.accumulate p sp bs size).bmSrc = s.bmSrc := 
  (State.append_bmSrc (s.commit p) (s.sink sp) bs).trans (State.commit_bmSrc s p)

@[simp] theorem State.accumulate_bmTgt (s : State) (p : Plan) (sp : Space) (bs : List Byte)
    (size : Nat) :
    (s.accumulate p sp bs size).bmTgt = s.bmTgt := 
  (State.append_bmTgt (s.commit p) (s.sink sp) bs).trans (State.commit_bmTgt s p)

@[simp] theorem State.accumulate_bmSize (s : State) (p : Plan) (sp : Space) (bs : List Byte)
    (size : Nat) :
    (s.accumulate p sp bs size).bmSize = s.bmSize := 
  (State.append_bmSize (s.commit p) (s.sink sp) bs).trans (State.commit_bmSize s p)

@[simp] theorem State.accumulate_inCursor (s : State) (p : Plan) (sp : Space) (bs : List Byte)
    (size : Nat) :
    (s.accumulate p sp bs size).inCursor = s.inCursor := 
  (State.append_inCursor (s.commit p) (s.sink sp) bs).trans (State.commit_inCursor s p)

@[simp] theorem State.accumulate_inLimit (s : State) (p : Plan) (sp : Space) (bs : List Byte)
    (size : Nat) :
    (s.accumulate p sp bs size).inLimit = s.inLimit := 
  (State.append_inLimit (s.commit p) (s.sink sp) bs).trans (State.commit_inLimit s p)

@[simp] theorem State.accumulate_cache (s : State) (p : Plan) (sp : Space) (bs : List Byte)
    (size : Nat) :
    (s.accumulate p sp bs size).cache = s.cache := 
  (State.append_cache (s.commit p) (s.sink sp) bs).trans (State.commit_cache s p)

@[simp] theorem State.accumulate_ctMaxMode (s : State) (p : Plan) (sp : Space) (bs : List Byte)
    (size : Nat) :
    (s.accumulate p sp bs size).ctMaxMode = s.ctMaxMode := 
  (State.append_ctMaxMode (s.commit p) (s.sink sp) bs).trans (State.commit_ctMaxMode s p)

@[simp] theorem State.accumulate_ct (s : State) (p : Plan) (sp : Space) (bs : List Byte)
    (size : Nat) :
    (s.accumulate p sp bs size).ct = s.ct := 
  (State.append_ct (s.commit p) (s.sink sp) bs).trans (State.commit_ct s p)

@[simp] theorem State.accumulate_interleaved (s : State) (p : Plan) (sp : Space) (bs : List Byte)
    (size : Nat) :
    (s.accumulate p sp bs size).interleaved = s.interleaved := 
  (State.append_interleaved (s.commit p) (s.sink sp) bs).trans (State.commit_interleaved s p)

@[simp] theorem State.accumulate_checksumOn (s : State) (p : Plan) (sp : Space) (bs : List Byte)
    (size : Nat) :
    (s.accumulate p sp bs size).checksumOn = s.checksumOn := 
  (State.append_checksumOn (s.commit p) (s.sink sp) bs).trans (State.commit_checksumOn s p)

@[simp] theorem State.accumulate_winSrcMode (s : State) (p : Plan) (sp : Space) (bs : List Byte)
    (size : Nat) :
    (s.accumulate p sp bs size).winSrcMode = s.winSrcMode := 
  (State.append_winSrcMode (s.commit p) (s.sink sp) bs).trans (State.commit_winSrcMode s p)

@[simp] theorem State.accumulate_winSrcSize (s : State) (p : Plan) (sp : Space) (bs : List Byte)
    (size : Nat) :
    (s.accumulate p sp bs size).winSrcSize = s.winSrcSize := 
  (State.append_winSrcSize (s.commit p) (s.sink sp) bs).trans (State.commit_winSrcSize s p)

@[simp] theorem State.accumulate_winSrcPos (s : State) (p : Plan) (sp : Space) (bs : List Byte)
    (size : Nat) :
    (s.accumulate p sp bs size).winSrcPos = s.winSrcPos := 
  (State.append_winSrcPos (s.commit p) (s.sink sp) bs).trans (State.commit_winSrcPos s p)

@[simp] theorem State.accumulate_winChecksum (s : State) (p : Plan) (sp : Space) (bs : List Byte)
    (size : Nat) :
    (s.accumulate p sp bs size).winChecksum = s.winChecksum := 
  (State.append_winChecksum (s.commit p) (s.sink sp) bs).trans (State.commit_winChecksum s p)

@[simp] theorem State.accumulate_rhRemove (s : State) (p : Plan) (sp : Space) (bs : List Byte)
    (size : Nat) :
    (s.accumulate p sp bs size).rhRemove = s.rhRemove := 
  (State.append_rhRemove (s.commit p) (s.sink sp) bs).trans (State.commit_rhRemove s p)

@[simp] theorem State.accumulate_bhHead (s : State) (p : Plan) (sp : Space) (bs : List Byte)
    (size : Nat) :
    (s.accumulate p sp bs size).bhHead = s.bhHead := 
  (State.append_bhHead (s.commit p) (s.sink sp) bs).trans (State.commit_bhHead s p)

@[simp] theorem State.accumulate_bhNext (s : State) (p : Plan) (sp : Space) (bs : List Byte)
    (size : Nat) :
    (s.accumulate p sp bs size).bhNext = s.bhNext := 
  (State.append_bhNext (s.commit p) (s.sink sp) bs).trans (State.commit_bhNext s p)

@[simp] theorem State.accumulate_epoch (s : State) (p : Plan) (sp : Space) (bs : List Byte)
    (size : Nat) :
    (s.accumulate p sp bs size).epoch = s.epoch := 
  (State.append_epoch (s.commit p) (s.sink sp) bs).trans (State.commit_epoch s p)

@[simp] theorem State.accumulate_inputs (s : State) (p : Plan) (sp : Space) (bs : List Byte)
    (size : Nat) :
    (s.accumulate p sp bs size).inputs = s.inputs := 
  (State.append_inputs (s.commit p) (s.sink sp) bs).trans (State.commit_inputs s p)

@[simp] theorem State.accumulate_responses (s : State) (p : Plan) (sp : Space) (bs : List Byte)
    (size : Nat) :
    (s.accumulate p sp bs size).responses = s.responses := 
  (State.append_responses (s.commit p) (s.sink sp) bs).trans (State.commit_responses s p)

@[simp] theorem State.accumulate_lastOpcodeIndex (s : State) (p : Plan) (sp : Space) (bs : List Byte)
    (size : Nat) : (s.accumulate p sp bs size).lastOpcodeIndex = p.newLast :=
  (State.append_lastOpcodeIndex (s.commit p) (s.sink sp) bs).trans rfl

@[simp] theorem State.accumulate_winTargetLen (s : State) (p : Plan) (sp : Space) (bs : List Byte)
    (size : Nat) : (s.accumulate p sp bs size).winTargetLen = s.winTargetLen + size :=
  congrArg (· + size) ((State.append_winTargetLen (s.commit p) (s.sink sp) bs).trans
    (State.commit_winTargetLen s p))

@[simp] theorem State.accumulate_serState (s : State) (p : Plan) (sp : Space) (bs : List Byte)
    (size : Nat) : (s.accumulate p sp bs size).serState = .inWindow := rfl

@[simp] theorem State.accumulate_reader (s : State) (p : Plan) (sp : Space) (bs : List Byte)
    (size : Nat) : (s.accumulate p sp bs size).reader =
      Reader.atStart s.cache.nearSize s.cache.sameSize := rfl

end Sys2Proof.Machine
end

