-- ==== Sys2Proof/Laws/Memory.lean ====
section
/-! SUPPORT. Sparse arrays and memory: reading after writing, what a write leaves, and the canonical form,
which every memory operation keeps. -/

namespace Sys2Proof.Machine

/-! ### Sparse arrays -/

@[simp] theorem Sparse.lookup_nil {α : Type} (k : Nat) : Sparse.lookup k ([] : Sparse α) = none := rfl

@[simp] theorem Sparse.lookup_insert_self {α : Type} (k : Nat) (v : α) (m : Sparse α) :
    Sparse.lookup k (Sparse.insert k v m) = some v := by
  induction m with
  | nil => simp [Sparse.insert, Sparse.lookup]
  | cons e rest ih =>
    obtain ⟨k', v'⟩ := e
    unfold Sparse.insert
    split_ifs with h1 h2
    · simp [Sparse.lookup]
    · simp [Sparse.lookup]
    · simp [Sparse.lookup, h2, ih]

theorem Sparse.lookup_insert_of_ne {α : Type} {k j : Nat} (v : α) (m : Sparse α) (h : j ≠ k) :
    Sparse.lookup j (Sparse.insert k v m) = Sparse.lookup j m := by
  induction m with
  | nil => simp [Sparse.insert, Sparse.lookup, h]
  | cons e rest ih =>
    obtain ⟨k', v'⟩ := e
    unfold Sparse.insert
    split_ifs with h1 h2
    · simp [Sparse.lookup, h]
    · subst h2; simp [Sparse.lookup, h]
    · simp [Sparse.lookup, ih]

theorem Sparse.lookup_erase_of_ne {α : Type} {k j : Nat} (m : Sparse α) (h : j ≠ k) :
    Sparse.lookup j (Sparse.erase k m) = Sparse.lookup j m := by
  induction m with
  | nil => rfl
  | cons e rest ih =>
    obtain ⟨k', v'⟩ := e
    unfold Sparse.erase
    split_ifs with h1
    · subst h1; simp [Sparse.lookup, h]
    · simp [Sparse.lookup, ih]

/-- A key not above a bound is in no list that rises from the bound. -/
theorem Sparse.lookup_of_risingFrom {α : Type} {k j : Nat} {m : Sparse α}
    (h : Sparse.risingFrom k m = true) (hj : j ≤ k) : Sparse.lookup j m = none := by
  induction m generalizing k with
  | nil => rfl
  | cons e rest ih =>
    obtain ⟨k', v'⟩ := e
    simp only [Sparse.risingFrom, Bool.and_eq_true, decide_eq_true_eq] at h
    have : j ≠ k' := by omega
    simp only [Sparse.lookup, this, if_false]
    exact ih h.2 (by omega)

theorem Sparse.lookup_erase_self {α : Type} (k : Nat) {m : Sparse α} (h : Sparse.rising m = true) :
    Sparse.lookup k (Sparse.erase k m) = none := by
  cases m with
  | nil => rfl
  | cons e rest =>
    obtain ⟨k', v'⟩ := e
    simp only [Sparse.rising] at h
    induction rest generalizing k' v' with
    | nil =>
      unfold Sparse.erase
      split_ifs with h1
      · rfl
      · simp [Sparse.erase, Sparse.lookup, h1]
    | cons e2 rest ih =>
      obtain ⟨k2, v2⟩ := e2
      simp only [Sparse.risingFrom, Bool.and_eq_true, decide_eq_true_eq] at h
      unfold Sparse.erase
      split_ifs with h1
      · exact Sparse.lookup_of_risingFrom (k := k') (by simp [Sparse.risingFrom, h]) (by omega)
      · rw [Sparse.lookup, if_neg h1]; exact ih k2 v2 h.2

theorem Sparse.risingFrom_insert {α : Type} {b k : Nat} (v : α) {m : Sparse α}
    (h : Sparse.risingFrom b m = true) (hb : b < k) : Sparse.risingFrom b (Sparse.insert k v m) = true := by
  induction m generalizing b with
  | nil => simp [Sparse.insert, Sparse.risingFrom, hb]
  | cons e rest ih =>
    obtain ⟨k', v'⟩ := e
    simp only [Sparse.risingFrom, Bool.and_eq_true, decide_eq_true_eq] at h
    unfold Sparse.insert
    split_ifs with h1 h2
    · simp [Sparse.risingFrom, hb, h1, h.2]
    · subst h2; simp [Sparse.risingFrom, hb, h.2]
    · simp [Sparse.risingFrom, h.1, ih h.2 (by omega : k' < k)]

theorem Sparse.rising_insert {α : Type} (k : Nat) (v : α) {m : Sparse α} (h : Sparse.rising m = true) :
    Sparse.rising (Sparse.insert k v m) = true := by
  cases m with
  | nil => rfl
  | cons e rest =>
    obtain ⟨k', v'⟩ := e
    simp only [Sparse.rising] at h
    unfold Sparse.insert
    split_ifs with h1 h2
    · simp [Sparse.rising, Sparse.risingFrom, h1, h]
    · subst h2; simpa [Sparse.rising] using h
    · simpa [Sparse.rising] using Sparse.risingFrom_insert v h (by omega)

theorem Sparse.risingFrom_mono {α : Type} {a b : Nat} {m : Sparse α} (h : Sparse.risingFrom b m = true)
    (hab : a ≤ b) : Sparse.risingFrom a m = true := by
  cases m with
  | nil => rfl
  | cons e rest =>
    simp only [Sparse.risingFrom, Bool.and_eq_true, decide_eq_true_eq] at h ⊢
    exact ⟨by omega, h.2⟩

theorem Sparse.rising_of_risingFrom {α : Type} {b : Nat} {m : Sparse α}
    (h : Sparse.risingFrom b m = true) : Sparse.rising m = true := by
  cases m with
  | nil => rfl
  | cons e rest =>
    simp only [Sparse.risingFrom, Bool.and_eq_true] at h
    exact h.2

theorem Sparse.risingFrom_erase {α : Type} {b : Nat} (k : Nat) {m : Sparse α}
    (h : Sparse.risingFrom b m = true) : Sparse.risingFrom b (Sparse.erase k m) = true := by
  induction m generalizing b with
  | nil => rfl
  | cons e rest ih =>
    obtain ⟨k', v'⟩ := e
    simp only [Sparse.risingFrom, Bool.and_eq_true, decide_eq_true_eq] at h
    unfold Sparse.erase
    split_ifs with h1
    · exact Sparse.risingFrom_mono h.2 (by omega)
    · simp [Sparse.risingFrom, h.1, ih h.2]

theorem Sparse.rising_erase {α : Type} (k : Nat) {m : Sparse α} (h : Sparse.rising m = true) :
    Sparse.rising (Sparse.erase k m) = true := by
  cases m with
  | nil => rfl
  | cons e rest =>
    obtain ⟨k', v'⟩ := e
    simp only [Sparse.rising] at h
    unfold Sparse.erase
    split_ifs with h1
    · exact Sparse.rising_of_risingFrom h
    · simpa [Sparse.rising] using Sparse.risingFrom_erase k h

theorem Sparse.below_insert {α : Type} {n k : Nat} (v : α) {m : Sparse α}
    (h : Sparse.below n m = true) (hk : k < n) : Sparse.below n (Sparse.insert k v m) = true := by
  induction m with
  | nil => simp [Sparse.insert, Sparse.below, hk]
  | cons e rest ih =>
    obtain ⟨k', v'⟩ := e
    simp only [Sparse.below, List.all_cons, Bool.and_eq_true, decide_eq_true_eq] at h ih ⊢
    unfold Sparse.insert
    split_ifs with h1 h2
    · simp only [List.all_cons, Bool.and_eq_true, decide_eq_true_eq]; exact ⟨hk, h⟩
    · simp only [List.all_cons, Bool.and_eq_true, decide_eq_true_eq]; exact ⟨hk, h.2⟩
    · simp only [List.all_cons, Bool.and_eq_true, decide_eq_true_eq]; exact ⟨h.1, ih h.2⟩

theorem Sparse.below_erase {α : Type} {n : Nat} (k : Nat) {m : Sparse α}
    (h : Sparse.below n m = true) : Sparse.below n (Sparse.erase k m) = true := by
  induction m with
  | nil => rfl
  | cons e rest ih =>
    obtain ⟨k', v'⟩ := e
    simp only [Sparse.below, List.all_cons, Bool.and_eq_true, decide_eq_true_eq] at h ih ⊢
    unfold Sparse.erase
    split_ifs with h1
    · exact h.2
    · simp only [List.all_cons, Bool.and_eq_true, decide_eq_true_eq]; exact ⟨h.1, ih h.2⟩

/-! ### Arrays whose unlisted entries are 0 -/

/-- An array after a write: the entry written holds the value, the others are as before. -/
theorem readZero_writeZero {a : Sparse Nat} (h : Sparse.rising a = true) (k v j : Nat) :
    readZero (writeZero a k v) j = if j = k then v else readZero a j := by
  unfold readZero writeZero
  split_ifs with h0 h1 h1
  · subst h0 h1; simp [Sparse.lookup_erase_self _ h]
  · rw [Sparse.lookup_erase_of_ne _ h1]
  · subst h1; simp
  · rw [Sparse.lookup_insert_of_ne _ _ h1]

theorem rising_writeZero {a : Sparse Nat} (h : Sparse.rising a = true) (k v : Nat) :
    Sparse.rising (writeZero a k v) = true := by
  unfold writeZero
  split_ifs
  · exact Sparse.rising_erase k h
  · exact Sparse.rising_insert k v h

/-! ### One byte -/

theorem State.mem_writeByte_self (s : State) (sp : Space) (a : Nat) (v : Byte) :
    (s.writeByte sp a v).mem sp = Sparse.insert a v (s.mem sp) := State.mem_setMem_self s sp _

/-- Reading the byte just written gives the value written (20_memory.md rule R64). -/
@[simp] theorem State.readByte_writeByte_self (s : State) (sp : Space) (a : Nat) (v : Byte) :
    (s.writeByte sp a v).readByte sp a = v := by
  simp [State.readByte, State.mem_writeByte_self]

/-- A write leaves every other byte as it was. -/
theorem State.readByte_writeByte_of_ne (s : State) {sp sp' : Space} {a a' : Nat} (v : Byte)
    (h : sp' ≠ sp ∨ a' ≠ a) : (s.writeByte sp a v).readByte sp' a' = s.readByte sp' a' := by
  unfold State.readByte State.unlisted
  by_cases hs : sp' = sp
  · subst hs
    rw [State.mem_writeByte_self, Sparse.lookup_insert_of_ne _ _ (h.resolve_left (fun g => g rfl))]
    simp
  · rw [State.mem_writeByte_of_ne s a v hs]; simp

/-- Two states with the same bytes listed and the same epoch read alike. -/
theorem State.readByte_congr {s t : State} {sp : Space} (h : t.mem sp = s.mem sp)
    (he : t.epoch = s.epoch) (a : Nat) : t.readByte sp a = s.readByte sp a := by
  simp [State.readByte, State.unlisted, h, he]

/-! ### Many bytes -/

/-- A byte outside those written is as it was. -/
theorem State.readByte_writeBytes_outside (s : State) {sp sp' : Space} {a a' : Nat} (bs : List Byte)
    (h : sp' ≠ sp ∨ a' < a ∨ a + bs.length ≤ a') :
    (s.writeBytes sp a bs).readByte sp' a' = s.readByte sp' a' := by
  induction bs generalizing s a with
  | nil => rfl
  | cons v rest ih =>
    simp only [State.writeBytes, List.length_cons] at h ⊢
    rw [ih _ (h.imp id (by omega)), State.readByte_writeByte_of_ne s v (h.imp id (by omega))]

/-- Byte `i` of a sequence written is at address `a + i` (20_memory.md rules R62, R66). -/
theorem State.readByte_writeBytes_inside (s : State) (sp : Space) (a i : Nat) (bs : List Byte)
    (h : i < bs.length) : (s.writeBytes sp a bs).readByte sp (a + i) = bs[i] := by
  induction bs generalizing s a i with
  | nil => simp at h
  | cons v rest ih =>
    simp only [State.writeBytes]
    cases i with
    | zero =>
      rw [State.readByte_writeBytes_outside _ _ (.inr (by omega))]
      simp
    | succ j =>
      have := ih (s.writeByte sp a v) (a + 1) j (by simpa using h)
      rw [show a + (j + 1) = a + 1 + j by omega, this]
      simp

theorem State.epoch_append (s : State) (sp : Space) (bs : List Byte) :
    (s.append sp bs).epoch = s.epoch := by simp

/-- What an append leaves: every byte but those from the old length on. -/
theorem State.readByte_append_outside (s : State) {sp sp' : Space} {a' : Nat} (bs : List Byte)
    (h : sp' ≠ sp ∨ a' < s.len sp ∨ s.len sp + bs.length ≤ a') :
    (s.append sp bs).readByte sp' a' = s.readByte sp' a' := by
  rw [← State.readByte_writeBytes_outside s bs h]
  exact State.readByte_congr (by simp [State.append]) (by simp) a'

/-- What an append stores: byte `i` at the old length plus `i` (20_memory.md rule R66). -/
theorem State.readByte_append_inside (s : State) (sp : Space) (i : Nat) (bs : List Byte)
    (h : i < bs.length) : (s.append sp bs).readByte sp (s.len sp + i) = bs[i] := by
  rw [← State.readByte_writeBytes_inside s sp (s.len sp) i bs h]
  exact State.readByte_congr (by simp [State.append]) (by simp) _

@[simp] theorem State.length_readBytes (s : State) (sp : Space) (a n : Nat) :
    (s.readBytes sp a n).length = n := by simp [State.readBytes]

@[simp] theorem State.getElem_readBytes (s : State) (sp : Space) (a n i : Nat)
    (h : i < (s.readBytes sp a n).length) : (s.readBytes sp a n)[i] = s.readByte sp (a + i) := by
  simp [State.readBytes]

theorem State.readBytes_congr {s t : State} {sp sp' : Space} {a a' n : Nat}
    (h : ∀ i < n, t.readByte sp' (a' + i) = s.readByte sp (a + i)) :
    t.readBytes sp' a' n = s.readBytes sp a n := by
  unfold State.readBytes
  exact List.map_congr_left fun i hi => h i (List.mem_range.mp hi)

/-- The bytes an append stored, read back (20_memory.md rules R62, R66, R70). -/
theorem State.readBytes_append_self (s : State) (sp : Space) (bs : List Byte) :
    (s.append sp bs).readBytes sp (s.len sp) bs.length = bs := by
  apply List.ext_getElem (by simp)
  intro i h1 h2
  simp only [State.getElem_readBytes]
  exact State.readByte_append_inside s sp i bs h2

/-! ### The canonical form -/

theorem State.memoryWf_iff (s : State) :
    s.memoryWf = true ↔ ∀ sp, Sparse.rising (s.mem sp) = true := by
  unfold State.memoryWf
  simp only [Bool.and_eq_true]
  constructor
  · rintro ⟨⟨⟨⟨⟨⟨h1, h2⟩, h3⟩, h4⟩, h5⟩, h6⟩, h7⟩ sp
    cases sp <;> assumption
  · exact fun h => ⟨⟨⟨⟨⟨⟨h .src, h .tgt⟩, h .inp⟩, h .data⟩, h .inst⟩, h .addr⟩, h .out⟩

/-- Replacing one space by a canonical one keeps the canonical form. -/
theorem State.memoryWf_setMem {s : State} (h : s.memoryWf = true) (sp : Space) {m : Sparse Byte}
    (hm : Sparse.rising m = true) : (s.setMem sp m).memoryWf = true := by
  rw [State.memoryWf_iff] at h ⊢
  intro sp'
  by_cases hs : sp' = sp
  · subst hs; simpa using hm
  · rw [State.mem_setMem_of_ne s m hs]; exact h sp'

theorem State.memoryWf_writeByte {s : State} (h : s.memoryWf = true) (sp : Space) (a : Nat) (v : Byte) :
    (s.writeByte sp a v).memoryWf = true :=
  State.memoryWf_setMem h sp (Sparse.rising_insert a v ((State.memoryWf_iff s).mp h sp))

theorem State.memoryWf_writeBytes {s : State} (h : s.memoryWf = true) (sp : Space) (a : Nat)
    (bs : List Byte) : (s.writeBytes sp a bs).memoryWf = true := by
  induction bs generalizing s a with
  | nil => exact h
  | cons v rest ih => exact ih (State.memoryWf_writeByte h sp a v) (a + 1)

/-- The canonical form depends on the listed bytes alone. -/
theorem State.memoryWf_congr {s t : State} (h : ∀ sp, t.mem sp = s.mem sp) :
    t.memoryWf = s.memoryWf := by
  rw [Bool.eq_iff_iff, State.memoryWf_iff, State.memoryWf_iff]
  simp [h]

theorem State.memoryWf_append {s : State} (h : s.memoryWf = true) (sp : Space) (bs : List Byte) :
    (s.append sp bs).memoryWf = true := by
  rw [← State.memoryWf_writeBytes h sp (s.len sp) bs]
  exact State.memoryWf_congr (by simp [State.append])

theorem State.memoryWf_rewriteOpcode {s : State} (h : s.memoryWf = true) (b : Option Byte) :
    (s.rewriteOpcode b).memoryWf = true := by
  cases b with
  | none => exact h
  | some v => exact State.memoryWf_writeByte h _ _ v

theorem State.memoryWf_commit {s : State} (h : s.memoryWf = true) (p : Plan) :
    (s.commit p).memoryWf = true :=
  State.memoryWf_append (State.memoryWf_rewriteOpcode h p.rewrite) .inst p.bytes

/-- The memory right after reset is in canonical form. -/
theorem State.memoryWf_resetWith (p : Params) : (State.resetWith p).memoryWf = true := rfl

theorem State.memoryWf_fullReset (s : State) : s.fullReset.memoryWf = true := rfl

theorem State.memoryWf_sessionReset (s : State) : s.sessionReset.memoryWf = s.memoryWf := rfl

end Sys2Proof.Machine
end

