-- ==== Sys2Proof/Laws/Command.lean ====
section
/-! SUPPORT. What a command can do, once: the refusal gate, the response, the fault entry; and the shape of
every meaning. -/

namespace Sys2Proof.Machine

/-! ### The gate and the three endings -/

theorem command_refused {op : Byte} {s : State} (r : Result) (hf : s.failed = true)
    (ha : allowedWhenFailed op = false) : command op s r = .next (s.respond (Response.bare .refused)) := by
  simp [command, hf, ha]

theorem command_ok {op : Byte} {s : State} (h : s.failed = false ∨ allowedWhenFailed op = true)
    (t : State) (r0 r1 r2 r3 : Field) :
    command op s (.ok t r0 r1 r2 r3) = .next (t.respond (Response.okay r0 r1 r2 r3)) := by
  rcases h with h | h <;> simp [command, h, Response.okay]

theorem command_done {op : Byte} {s : State} (h : s.failed = false ∨ allowedWhenFailed op = true)
    (t : State) : command op s (.done t) = .next (t.respond (Response.okay 0 0 0 0)) :=
  command_ok h t 0 0 0 0

theorem command_raise {op : Byte} {s : State} (h : s.failed = false ∨ allowedWhenFailed op = true)
    (c : Cause) (info : Field) : command op s (.raise c info) = .next (s.takeFault op c info) := by
  rcases h with h | h <;> simp [command, h]

theorem command_endOfData {op : Byte} {s : State} (h : s.failed = false ∨ allowedWhenFailed op = true) :
    command op s .endOfData = .next (s.respond (Response.bare .endOfData)) := by
  rcases h with h | h <;> simp [command, h]

/-- Everything a command can answer a next state with: it was refused, or it completed, met the end of the
data, or took a fault. -/
theorem command_next {op : Byte} {s t : State} {r : Result} (h : command op s r = .next t) :
    (s.failed = true ∧ allowedWhenFailed op = false ∧ t = s.respond (Response.bare .refused)) ∨
    ((s.failed = false ∨ allowedWhenFailed op = true) ∧
      ((∃ u r0 r1 r2 r3, r = .ok u r0 r1 r2 r3 ∧ t = u.respond (Response.okay r0 r1 r2 r3)) ∨
       (r = .endOfData ∧ t = s.respond (Response.bare .endOfData)) ∨
       ∃ c info, r = .raise c info ∧ t = s.takeFault op c info)) := by
  unfold command at h
  split at h
  · rename_i hg
    simp only [Bool.and_eq_true, Bool.not_eq_true'] at hg
    exact .inl ⟨hg.1, hg.2, (by simpa using h.symm)⟩
  · rename_i hg
    refine .inr ⟨?_, ?_⟩
    · cases hf : s.failed <;> cases ha : allowedWhenFailed op <;> simp_all
    · cases r with
      | ok u r0 r1 r2 r3 => exact .inl ⟨u, r0, r1, r2, r3, rfl, (by simpa [Response.okay] using h.symm)⟩
      | endOfData => exact .inr (.inl ⟨rfl, (by simpa using h.symm)⟩)
      | raise c info => exact .inr (.inr ⟨c, info, rfl, (by simpa using h.symm)⟩)
      | stuck f => simp at h

/-- A command stops only where its rule is stuck. -/
theorem command_fault {op : Byte} {s : State} {r : Result} {f : Fault} (h : command op s r = .fault f) :
    r = .stuck f := by
  unfold command at h
  split at h
  · simp at h
  · cases r <;> simp_all

/-! ### Fault entry -/

/-- Fault entry while nothing has failed (60_exceptions.md rule R264). -/
theorem State.takeFault_first {s : State} (h : s.failed = false) (op : Byte) (c : Cause) (info : Field) :
    s.takeFault op c info =
      { s with failed := true, errCause := some c, errCmd := op, errInfo := info,
               responses := s.responses ++ [Response.bare c.status] } := by
  simp [State.takeFault, h, State.respond]

/-- Fault entry in the failed state: the record of the first fault stays (60_exceptions.md rule R264). -/
theorem State.takeFault_again {s : State} (h : s.failed = true) (op : Byte) (c : Cause) (info : Field) :
    s.takeFault op c info = s.respond (Response.bare c.status) := by
  simp [State.takeFault, h]

@[simp] theorem State.takeFault_failed (s : State) (op : Byte) (c : Cause) (info : Field) :
    (s.takeFault op c info).failed = true := by
  cases h : s.failed <;> simp [State.takeFault, State.respond, h]

theorem Response.okay_injective {a0 a1 a2 a3 b0 b1 b2 b3 : Field}
    (h : Response.okay a0 a1 a2 a3 = Response.okay b0 b1 b2 b3) :
    a0 = b0 ∧ a1 = b1 ∧ a2 = b2 ∧ a3 = b3 := by
  simpa [Response.okay] using h

/-! ### Memory under the updates that store nothing -/

@[simp] theorem State.readByte_respond (s : State) (r : Response) (sp : Space) (a : Nat) :
    (s.respond r).readByte sp a = s.readByte sp a := State.readByte_congr (by cases sp <;> rfl) rfl a

@[simp] theorem State.readByte_takeFault (s : State) (op : Byte) (c : Cause) (info : Field) (sp : Space)
    (a : Nat) : (s.takeFault op c info).readByte sp a = s.readByte sp a :=
  State.readByte_congr (by cases sp <;> simp [State.mem]) (by simp) a

/-! ### The shape of every meaning -/

/-- An instruction is a command, which its word's number gates, or an opcode byte, which the reader
reads. -/
theorem exec_shape (i : Instr) (s : State) :
    (∃ op a0 a1 a2 a3 r, encode i = .command (commandWord op a0 a1 a2 a3) ∧ exec i s = command op s r) ∨
    (∃ b, encode i = .opcode b ∧ exec i s = readOpcode b s) := by
  cases i <;>
    first
      | exact .inr ⟨_, rfl, rfl⟩
      | exact .inl ⟨_, _, _, _, _, .done _, rfl, rfl⟩
      | exact .inl ⟨_, _, _, _, _, _, rfl, rfl⟩

/-- The instruction of an opcode byte is executed as a turn of the reader on that byte. -/
theorem exec_decodeOpcode (b : Byte) (s : State) : exec (decodeOpcode b) s = readOpcode b s := by
  have h : ∀ n < 256, exec (opcodeRows.getD n .ct00) s = readOpcode (BitVec.ofNat 8 n) s := by
    intro n hn
    interval_cases n <;> rfl
  have := h b.toNat b.isLt
  simpa [decodeOpcode] using this

end Sys2Proof.Machine
end

