-- ==== Sys2Proof/Laws/Effects.lean ====
section
/-! SUPPORT. What a step can do, once: every state a command can complete in. Statements about every
instruction follow from it without unfolding a meaning. -/

namespace Sys2Proof.Machine

/-- The command of number `op`, given at `s`, can complete in the second state: one constructor per update
a command makes, with what its rule has checked. -/
inductive Effect : (op : Byte) → State → State → Prop where
  /-- Nothing is written: NOP, RDREG, MEM_READ, the length, hash, walk and lookup commands. -/
  | same (op : Byte) (s : State) : Effect op s s
  | reset (s : State) : Effect 0x01 s s.fullReset
  | sessionReset (s : State) : Effect 0x02 s s.sessionReset
  | wrreg (s : State) (n : Nat) (v lo hi : Int) (range : s.writeRange n = some (lo, hi)) (ge : lo ≤ v)
      (le : v ≤ hi) : Effect 0x04 s (s.writeReg n v)
  | memWrite (s : State) (sp : Space) (a : Nat) (v : Byte) (writable : sp.writable = true)
      (inside : a < Params.cap s.params sp) (mutable : sp = .src → s.srcIndexed a = false) :
      Effect 0x06 s (s.writeByte sp a v)
  | varintEnc (op : Byte) (s : State) (v : Nat) (isEnc : op = 0x12 ∨ op = 0x13)
      (room : s.outLen + (varintEncode v).length ≤ s.params.outCap) :
      Effect op s (s.append .out (varintEncode v))
  | parse (op : Byte) (s : State) (q : Nat) (isParse : op = 0x14 ∨ op = 0x15 ∨ op = 0x16)
      (le : q ≤ s.inLimit) : Effect op s { s with inCursor := q }
  | rhInit (s : State) : Effect 0x20 s { s with rhRemove := removalTable s.params, rhReady := true }
  | bhInit (s : State) (size offset : Nat) (inside : size ≤ s.params.srcCap)
      (bias : size + offset ≤ max32) : Effect 0x30 s (s.emptyIndex size offset)
  | bhPopulate (s : State) (size offset : Nat) (inside : size ≤ s.params.srcCap)
      (bias : size + offset ≤ max32) :
      Effect 0x30 s { (s.emptyIndex size offset).addBlocksThrough size with bhLastEnd := size }
  | bhAddThrough (s : State) (stop : Int) (ready : s.bhReady = true) (above : s.bhLastEnd < stop)
      (le : stop ≤ s.srcSize) : Effect 0x31 s { s.addBlocksThrough stop.toNat with bhLastEnd := stop }
  | findBest (s : State) (hash tpos : Nat) (ready : s.bhReady = true) (word : tpos ≤ max32)
      (inside : tpos + s.params.b ≤ s.tgtSize) (low : s.tgtLo ≤ tpos) : Effect 0x34 s (s.findBest hash tpos)
  | bmClear (s : State) : Effect 0x35 s { s with bmSrc := -1, bmTgt := 0, bmSize := 0 }
  | acConfig (s : State) (near same : Nat) (idle : s.serState = .uninit) (le : near + same ≤ 254) :
      Effect 0x40 s { s with cache := AddrCache.cleared near same }
  | acReset (s : State) (idle : s.serState = .uninit) : Effect 0x41 s { s with cache := s.cache.clear }
  | acEncode (s : State) (a : Nat) (idle : s.serState = .uninit) (lt : a < max32) :
      Effect 0x42 s { s with cache := s.cache.update a }
  | acDecode (s : State) (a q : Nat) (idle : s.serState = .uninit) (lt : a < max32) (le : q ≤ s.inLimit) :
      Effect 0x43 s { s with cache := s.cache.update a, inCursor := q }
  | ctDefault (s : State) (idle : s.serState = .uninit) :
      Effect 0x50 s { s with ct := [], ctValid := true, ctMaxMode := 8 }
  | ctWrite (s : State) (op : Nat) (e : CtEntry) (idle : s.serState = .uninit) (lt : op < 256) :
      Effect 0x51 s { s.setCtEntry op e with ctValid := false }
  | ctValidate (s : State) (m : Nat) (idle : s.serState = .uninit) (lt : m < 256)
      (valid : tableValid s.ctEntry m = true) : Effect 0x53 s { s with ctValid := true, ctMaxMode := m }
  | serStart (s : State) (flags : Nat) (bytes : List Byte) (idle : s.serState = .uninit)
      (valid : s.ctValid = true) (modes : s.cache.lastMode ≤ s.ctMaxMode)
      (room : s.outLen + 5 ≤ s.params.outCap) (five : bytes.length = 5) :
      Effect 0x60 s
        { ((s.setFormatFlags flags).clearWindow).append .out bytes with
          winSrcMode := .none, winSrcSize := 0, winSrcPos := 0, serState := .ready }
  | serWindow (s : State) (m : WinSource) (size pos : Nat) (ready : s.serState = .ready)
      (sizeLe : size ≤ max32) (posLe : pos ≤ max32) :
      Effect 0x61 s { s with winSrcMode := m, winSrcSize := size, winSrcPos := pos }
  | accumulate (op : Byte) (s : State) (inst : Byte) (size mode : Nat) (sp : Space) (operand : List Byte)
      (p : Plan) (cache : AddrCache)
      (which : op = 0x62 ∧ inst = instAdd ∧ mode = 0 ∧ sp = .data ∧ cache = s.cache ∨
        op = 0x63 ∧ inst = instRun ∧ mode = 0 ∧ sp = .data ∧ cache = s.cache ∨
        op = 0x64 ∧ inst = instCopy ∧ sp = .addr ∧
          ∃ a < s.hereAddress, cache = s.cache.update a ∧ mode = (s.cache.choose a s.hereAddress).mode)
      (isOpen : s.serState ≠ .uninit) (pos : 1 ≤ size) (le : s.winSrcSize + s.winTargetLen + size ≤ max32)
      (planned : s.plan inst size mode = some p) (room : s.overflow sp p.bytes.length operand.length = none) :
      Effect op s ({ s with cache := cache }.accumulate p sp operand size)
  | serChecksum (s : State) (v : Nat) (isOpen : s.serState ≠ .uninit) (lt : v < 2 ^ 32) :
      Effect 0x65 s { s with winChecksum := v, winHasChecksum := true }
  | serOutputEmpty (s : State) (isOpen : s.serState ≠ .uninit) (empty : s.winTargetLen = 0) :
      Effect 0x66 s { s.clearWindow with serState := .ready }
  | serOutput (s : State) (isOpen : s.serState ≠ .uninit)
      (room : s.outLen + s.windowBytes.length ≤ s.params.outCap) :
      Effect 0x66 s { (s.append .out s.windowBytes).clearWindow with serState := .ready }
  | serFinish (s : State) (ready : s.serState = .ready) : Effect 0x67 s { s with serState := .uninit }
  | outClear (s : State) : Effect 0x68 s { s with outLen := 0 }

/-! ### What the shared operations answer -/

theorem varintParseFrom_ok {mem : Nat → Byte} {limit max left result p v q : Nat}
    (h : varintParseFrom mem limit max left result p = .ok v q) : p < q ∧ q ≤ limit ∧ q ≤ p + left := by
  induction left generalizing result p with
  | zero => simp [varintParseFrom] at h
  | succ n ih =>
    simp only [varintParseFrom] at h
    split at h
    · cases h
    · split at h
      · cases h; omega
      · split at h
        · cases h
        · split at h
          · cases h
          · have := ih h; omega

/-- A varint that parses ends above its start and not above the limit. -/
theorem varintParse_ok {width : VarWidth} {mem : Nat → Byte} {cursor limit v q : Nat}
    (h : varintParse width mem cursor limit = .ok v q) : cursor < q ∧ q ≤ limit :=
  ⟨(varintParseFrom_ok h).1, (varintParseFrom_ok h).2.1⟩

theorem addrInRange_ok {addr here : Int} {cursor a q : Nat} (h : addrInRange addr here cursor = .ok a q) :
    (a : Int) = addr ∧ (a : Int) < here ∧ q = cursor := by
  unfold addrInRange at h
  split at h
  · cases h
  · cases h; omega

theorem AddrCache.decodeValue_ok {c : AddrCache} {here : Int} {mode v cursor a q : Nat}
    (h : c.decodeValue here mode v cursor = .ok a q) : (a : Int) < here ∧ q = cursor := by
  unfold AddrCache.decodeValue at h
  split at h
  · exact (addrInRange_ok h).2
  · split at h
    · exact (addrInRange_ok h).2
    · split at h
      · cases h
      · exact (addrInRange_ok h).2

/-- An address that decodes is below the here address, in a mode of the cache, and its field ends above its
start and not above the limit. -/
theorem AddrCache.decode_ok {c : AddrCache} {mem : Nat → Byte} {cursor limit : Nat} {here : Int}
    {mode a q : Nat} (h : c.decode mem cursor limit here mode = .ok a q) :
    (a : Int) < here ∧ here ≤ max32 ∧ mode ≤ c.lastMode ∧ cursor < q ∧ q ≤ limit := by
  unfold AddrCache.decode at h
  split at h
  · cases h
  · split at h
    · cases h
    · split at h
      · split at h
        · cases h
        · obtain ⟨-, h1, h2⟩ := addrInRange_ok h; omega
      · split at h
        · cases h
        · cases h
        · rename_i hp
          obtain ⟨h1, h2⟩ := AddrCache.decodeValue_ok h
          have := varintParse_ok hp
          omega

/-- What a size operand that passes its checks satisfies (45_serializer.md rule R216). -/
theorem State.sizeFault_none {s : State} {a : Field} (h : s.sizeFault a = none) :
    s.serState ≠ .uninit ∧ 0 < s64 a ∧ (s.winSrcSize + s.winTargetLen : Int) + s64 a ≤ max32 := by
  unfold State.sizeFault at h
  split at h
  · cases h
  · split at h
    · cases h
    · split at h
      · cases h
      · split at h
        · cases h
        · refine ⟨‹_›, ?_, ?_⟩ <;> omega

/-- A field that is not negative is the same number read as unsigned. -/
theorem s64_of_nonneg {a : Field} (h : 0 ≤ s64 a) : s64 a = (u64 a : Int) := by
  unfold s64 u64 at *
  rw [BitVec.toInt_eq_toNat_cond] at h ⊢
  split at h <;> rename_i hc
  · rw [if_pos hc]
  · have := a.isLt; omega

theorem serResult_ok {s t u : State} {inst : Byte} {size mode : Nat} {sp : Space} {operand : List Byte}
    {x0 x1 r0 r1 r2 r3 : Field}
    (h : serResult s t inst size mode sp operand x0 x1 = .ok u r0 r1 r2 r3) :
    ∃ p, s.plan inst size mode = some p ∧ s.overflow sp p.bytes.length operand.length = none ∧
      u = t.accumulate p sp operand size := by
  unfold serResult at h
  split at h
  · cases h
  · split at h
    · cases h
    · cases h; exact ⟨_, ‹_›, ‹_›, rfl⟩

/-! ### Every step -/

/-- All that a command of number `op` given at `s` can end in (00_scope.md rule R12). -/
inductive Ending (op : Byte) (s : State) : State → Prop where
  | refused (failed : s.failed = true) (gate : allowedWhenFailed op = false) :
      Ending op s (s.respond (Response.bare .refused))
  | completed (gate : s.failed = false ∨ allowedWhenFailed op = true) (u : State) (r0 r1 r2 r3 : Field)
      (effect : Effect op s u) : Ending op s (u.respond (Response.okay r0 r1 r2 r3))
  | endOfData (gate : s.failed = false)
      (reads : op = 0x14 ∨ op = 0x15 ∨ op = 0x16 ∨ op = 0x43) :
      Ending op s (s.respond (Response.bare .endOfData))
  | fault (gate : s.failed = false ∨ allowedWhenFailed op = true) (c : Cause) (info : Field) :
      Ending op s (s.takeFault op c info)

theorem command_ending {op : Byte} {s t : State} {r : Result} (h : command op s r = .next t)
    (ok : ∀ u r0 r1 r2 r3, r = .ok u r0 r1 r2 r3 → Effect op s u)
    (eod : r = .endOfData → op = 0x14 ∨ op = 0x15 ∨ op = 0x16 ∨ op = 0x43) : Ending op s t := by
  obtain ⟨hf, hg, rfl⟩ | ⟨hg, ⟨u, r0, r1, r2, r3, hr, rfl⟩ | ⟨hr, rfl⟩ | ⟨c, info, -, rfl⟩⟩ := command_next h
  · exact .refused hf hg
  · exact .completed hg u r0 r1 r2 r3 (ok u r0 r1 r2 r3 hr)
  · refine .endOfData (hg.resolve_right fun ha => ?_) (eod hr)
    rcases eod hr with rfl | rfl | rfl | rfl <;> exact absurd ha (by decide)
  · exact .fault hg c info

theorem serResult_ne_endOfData {s t : State} {inst : Byte} {size mode : Nat} {sp : Space}
    {operand : List Byte} {x0 x1 : Field} : serResult s t inst size mode sp operand x0 x1 ≠ .endOfData := by
  unfold serResult
  repeat' split
  all_goals exact Result.noConfusion

/-- A command that answers a next state ends in one of its endings. -/
theorem exec_ending {i : Instr} {s t : State} {w : CommandWord} (hi : encode i = .command w)
    (h : exec i s = .next t) : Ending (opBits w) s t := by
  have hop : ∀ (op : Byte) (b0 b1 b2 b3 : Field),
      Encoded.command (commandWord op b0 b1 b2 b3) = .command w → opBits w = op := by
    intro op b0 b1 b2 b3 h
    injection h with h
    rw [← h, opBits_commandWord]
  cases i
  case nop =>
    rw [hop _ _ _ _ _ hi]
    change command _ s (.done _) = _ at h
    exact command_ending h (fun u r0 r1 r2 r3 hr => by cases hr; exact .same _ _) (by rintro ⟨⟩)
  case reset =>
    rw [hop _ _ _ _ _ hi]
    change command _ s (.done _) = _ at h
    exact command_ending h (fun u r0 r1 r2 r3 hr => by cases hr; exact .reset _) (by rintro ⟨⟩)
  case sessionReset =>
    rw [hop _ _ _ _ _ hi]
    change command _ s (.done _) = _ at h
    exact command_ending h (fun u r0 r1 r2 r3 hr => by cases hr; exact .sessionReset _) (by rintro ⟨⟩)
  case rhInit =>
    rw [hop _ _ _ _ _ hi]
    change command _ s (.done _) = _ at h
    exact command_ending h (fun u r0 r1 r2 r3 hr => by cases hr; exact .rhInit _) (by rintro ⟨⟩)
  case bmClear =>
    rw [hop _ _ _ _ _ hi]
    change command _ s (.done _) = _ at h
    exact command_ending h (fun u r0 r1 r2 r3 hr => by cases hr; exact .bmClear _) (by rintro ⟨⟩)
  case outClear =>
    rw [hop _ _ _ _ _ hi]
    change command _ s (.done _) = _ at h
    exact command_ending h (fun u r0 r1 r2 r3 hr => by cases hr; exact .outClear _) (by rintro ⟨⟩)
  case rdreg =>
    rw [hop _ _ _ _ _ hi]
    change command _ s _ = _ at h
    refine command_ending h (fun u r0 r1 r2 r3 hr => ?_) (fun hr => ?_)
    · repeat' split at hr
      all_goals cases hr
      all_goals exact .same _ _
    · repeat' split at hr
      all_goals cases hr
  case memRead =>
    rw [hop _ _ _ _ _ hi]
    change command _ s _ = _ at h
    refine command_ending h (fun u r0 r1 r2 r3 hr => ?_) (fun hr => ?_)
    · repeat' split at hr
      all_goals cases hr
      all_goals exact .same _ _
    · repeat' split at hr
      all_goals cases hr
  case rhUpdate =>
    rw [hop _ _ _ _ _ hi]
    change command _ s _ = _ at h
    refine command_ending h (fun u r0 r1 r2 r3 hr => ?_) (fun hr => ?_)
    · repeat' split at hr
      all_goals cases hr
      all_goals exact .same _ _
    · repeat' split at hr
      all_goals cases hr
  case bhFirstMatch =>
    rw [hop _ _ _ _ _ hi]
    change command _ s _ = _ at h
    refine command_ending h (fun u r0 r1 r2 r3 hr => ?_) (fun hr => ?_)
    · repeat' split at hr
      all_goals cases hr
      all_goals exact .same _ _
    · repeat' split at hr
      all_goals cases hr
  case bhNextMatch =>
    rw [hop _ _ _ _ _ hi]
    change command _ s _ = _ at h
    refine command_ending h (fun u r0 r1 r2 r3 hr => ?_) (fun hr => ?_)
    · repeat' split at hr
      all_goals cases hr
      all_goals exact .same _ _
    · repeat' split at hr
      all_goals cases hr
  case ctRead =>
    rw [hop _ _ _ _ _ hi]
    change command _ s _ = _ at h
    refine command_ending h (fun u r0 r1 r2 r3 hr => ?_) (fun hr => ?_)
    · repeat' split at hr
      all_goals cases hr
      all_goals exact .same _ _
    · repeat' split at hr
      all_goals cases hr
  case imFirst =>
    rw [hop _ _ _ _ _ hi]
    change command _ s _ = _ at h
    refine command_ending h (fun u r0 r1 r2 r3 hr => ?_) (fun hr => ?_)
    · repeat' split at hr
      all_goals cases hr
      all_goals exact .same _ _
    · repeat' split at hr
      all_goals cases hr
  case imSecond =>
    rw [hop _ _ _ _ _ hi]
    change command _ s _ = _ at h
    refine command_ending h (fun u r0 r1 r2 r3 hr => ?_) (fun hr => ?_)
    · repeat' split at hr
      all_goals cases hr
      all_goals exact .same _ _
    · repeat' split at hr
      all_goals cases hr
  case varintLen32 =>
    rw [hop _ _ _ _ _ hi]
    change command _ s _ = _ at h
    refine command_ending h (fun u r0 r1 r2 r3 hr => ?_) (fun hr => ?_)
    · unfold varintLenResult at hr
      repeat' split at hr
      all_goals cases hr
      exact .same _ _
    · unfold varintLenResult at hr
      repeat' split at hr
      all_goals cases hr
  case varintLen64 =>
    rw [hop _ _ _ _ _ hi]
    change command _ s _ = _ at h
    refine command_ending h (fun u r0 r1 r2 r3 hr => ?_) (fun hr => ?_)
    · unfold varintLenResult at hr
      repeat' split at hr
      all_goals cases hr
      exact .same _ _
    · unfold varintLenResult at hr
      repeat' split at hr
      all_goals cases hr
  case rhHash =>
    rw [hop _ _ _ _ _ hi]
    change command _ s _ = _ at h
    refine command_ending h (fun u r0 r1 r2 r3 hr => ?_) (fun hr => ?_)
    · dsimp only at hr
      repeat' split at hr
      all_goals cases hr
      all_goals exact .same _ _
    · dsimp only at hr
      repeat' split at hr
      all_goals cases hr
  case wrreg =>
    rw [hop _ _ _ _ _ hi]
    change command _ s _ = _ at h
    refine command_ending h (fun u r0 r1 r2 r3 hr => ?_) (fun hr => ?_)
    · repeat' split at hr
      all_goals cases hr
      rename_i hw hn
      exact .wrreg _ _ _ _ _ hw (by omega) (by omega)
    · repeat' split at hr
      all_goals cases hr
  case memWrite =>
    rw [hop _ _ _ _ _ hi]
    change command _ s _ = _ at h
    refine command_ending h (fun u r0 r1 r2 r3 hr => ?_) (fun hr => ?_)
    · repeat' split at hr
      all_goals cases hr
      rename_i sp hsp ha hb hs
      refine .memWrite _ _ _ _ ?_ (by omega) ?_
      · simp only [Option.filter_eq_some_iff] at hsp; exact hsp.2
      · rintro rfl; simpa using hs
    · repeat' split at hr
      all_goals cases hr
  case varintEnc32 =>
    rw [hop _ _ _ _ _ hi]
    change command _ s _ = _ at h
    refine command_ending h (fun u r0 r1 r2 r3 hr => ?_) (fun hr => ?_)
    · unfold varintEncResult at hr
      dsimp only at hr
      repeat' split at hr
      all_goals cases hr
      rename_i hroom
      exact .varintEnc _ _ _ (.inl rfl) (of_decide_eq_true hroom)
    · unfold varintEncResult at hr
      dsimp only at hr
      repeat' split at hr
      all_goals cases hr
  case varintEnc64 =>
    rw [hop _ _ _ _ _ hi]
    change command _ s _ = _ at h
    refine command_ending h (fun u r0 r1 r2 r3 hr => ?_) (fun hr => ?_)
    · unfold varintEncResult at hr
      dsimp only at hr
      repeat' split at hr
      all_goals cases hr
      rename_i hroom
      exact .varintEnc _ _ _ (.inr rfl) (of_decide_eq_true hroom)
    · unfold varintEncResult at hr
      dsimp only at hr
      repeat' split at hr
      all_goals cases hr
  case varintParse32 =>
    rw [hop _ _ _ _ _ hi]
    change command _ s _ = _ at h
    refine command_ending h (fun u r0 r1 r2 r3 hr => ?_) (fun _ => .inl rfl)
    unfold varintParseResult at hr
    split at hr
    all_goals cases hr
    rename_i hp
    exact .parse _ _ _ (.inl rfl) (varintParse_ok hp).2
  case varintParse64 =>
    rw [hop _ _ _ _ _ hi]
    change command _ s _ = _ at h
    refine command_ending h (fun u r0 r1 r2 r3 hr => ?_) (fun _ => .inr (.inl rfl))
    unfold varintParseResult at hr
    split at hr
    all_goals cases hr
    rename_i hp
    exact .parse _ _ _ (.inr (.inl rfl)) (varintParse_ok hp).2
  case parseByte =>
    rw [hop _ _ _ _ _ hi]
    change command _ s _ = _ at h
    refine command_ending h (fun u r0 r1 r2 r3 hr => ?_) (fun _ => .inr (.inr (.inl rfl)))
    split at hr
    all_goals cases hr
    exact .parse _ _ _ (.inr (.inr rfl)) (by omega)
  case bhInit =>
    rw [hop _ _ _ _ _ hi]
    change command _ s _ = _ at h
    refine command_ending h (fun u r0 r1 r2 r3 hr => ?_) (fun hr => ?_)
    · dsimp only at hr
      repeat' split at hr
      all_goals cases hr
      · exact .bhPopulate _ _ _ (by omega) (by omega)
      · exact .bhInit _ _ _ (by omega) (by omega)
    · dsimp only at hr
      repeat' split at hr
      all_goals cases hr
  case bhAddThrough =>
    rw [hop _ _ _ _ _ hi]
    change command _ s _ = _ at h
    refine command_ending h (fun u r0 r1 r2 r3 hr => ?_) (fun hr => ?_)
    · dsimp only at hr
      repeat' split at hr
      all_goals cases hr
      rename_i h1 _ _
      exact .bhAddThrough _ _ (by simpa using h1) (by omega) (by omega)
    · dsimp only at hr
      repeat' split at hr
      all_goals cases hr
  case bhFindBest =>
    rw [hop _ _ _ _ _ hi]
    change command _ s _ = _ at h
    refine command_ending h (fun u r0 r1 r2 r3 hr => ?_) (fun hr => ?_)
    · dsimp only at hr
      repeat' split at hr
      all_goals cases hr
      rename_i h1 _ h3
      simp only [State.windowInside, Bool.and_eq_true, decide_eq_true_eq] at h3
      exact .findBest _ _ _ (by simpa using h1) h3.1.1 h3.1.2 h3.2
    · dsimp only at hr
      repeat' split at hr
      all_goals cases hr
  case acConfig =>
    rw [hop _ _ _ _ _ hi]
    change command _ s _ = _ at h
    refine command_ending h (fun u r0 r1 r2 r3 hr => ?_) (fun hr => ?_)
    · repeat' split at hr
      all_goals cases hr
      exact .acConfig _ _ _ (not_not.mp ‹_›) (by omega)
    · repeat' split at hr
      all_goals cases hr
  case acReset =>
    rw [hop _ _ _ _ _ hi]
    change command _ s _ = _ at h
    refine command_ending h (fun u r0 r1 r2 r3 hr => ?_) (fun hr => ?_)
    · repeat' split at hr
      all_goals cases hr
      exact .acReset _ (not_not.mp ‹_›)
    · repeat' split at hr
      all_goals cases hr
  case acEncode =>
    rw [hop _ _ _ _ _ hi]
    change command _ s _ = _ at h
    refine command_ending h (fun u r0 r1 r2 r3 hr => ?_) (fun hr => ?_)
    · dsimp only at hr
      repeat' split at hr
      all_goals cases hr
      exact .acEncode _ _ (not_not.mp ‹_›) (by omega)
    · dsimp only at hr
      repeat' split at hr
      all_goals cases hr
  case acDecode =>
    rw [hop _ _ _ _ _ hi]
    change command _ s _ = _ at h
    refine command_ending h (fun u r0 r1 r2 r3 hr => ?_) (fun _ => .inr (.inr (.inr rfl)))
    repeat' split at hr
    all_goals cases hr
    rename_i hs _ _ _ hd
    have := AddrCache.decode_ok hd
    exact .acDecode _ _ _ (not_not.mp hs) (by omega) this.2.2.2.2
  case ctDefault =>
    rw [hop _ _ _ _ _ hi]
    change command _ s _ = _ at h
    refine command_ending h (fun u r0 r1 r2 r3 hr => ?_) (fun hr => ?_)
    · repeat' split at hr
      all_goals cases hr
      exact .ctDefault _ (not_not.mp ‹_›)
    · repeat' split at hr
      all_goals cases hr
  case ctWrite =>
    rw [hop _ _ _ _ _ hi]
    change command _ s _ = _ at h
    refine command_ending h (fun u r0 r1 r2 r3 hr => ?_) (fun hr => ?_)
    · repeat' split at hr
      all_goals cases hr
      exact .ctWrite _ _ _ (not_not.mp ‹_›) (by omega)
    · repeat' split at hr
      all_goals cases hr
  case ctValidate =>
    rw [hop _ _ _ _ _ hi]
    change command _ s _ = _ at h
    refine command_ending h (fun u r0 r1 r2 r3 hr => ?_) (fun hr => ?_)
    · repeat' split at hr
      all_goals cases hr
      rename_i hl _ hm
      exact .ctValidate _ _ (not_not.mp ‹_›) (by omega) (by simp [tableValid, hl, hm])
    · repeat' split at hr
      all_goals cases hr
  case serStart =>
    rw [hop _ _ _ _ _ hi]
    change command _ s _ = _ at h
    refine command_ending h (fun u r0 r1 r2 r3 hr => ?_) (fun hr => ?_)
    · dsimp only at hr
      repeat' split at hr
      all_goals try cases hr
      all_goals
        rename_i hs _ hv hm hr' _
        exact .serStart _ _ _ (not_not.mp hs) (by simpa using hv) (by simpa [AddrCache.lastMode] using hm)
          (of_decide_eq_true (not_not.mp hr')) rfl
    · dsimp only at hr
      repeat' split at hr
      all_goals cases hr
  case serWindow =>
    rw [hop _ _ _ _ _ hi]
    change command _ s _ = _ at h
    refine command_ending h (fun u r0 r1 r2 r3 hr => ?_) (fun hr => ?_)
    · repeat' split at hr
      all_goals cases hr
      all_goals exact .serWindow _ _ _ _ (not_not.mp ‹_›) (by omega) (by omega)
    · repeat' split at hr
      all_goals cases hr
  case serAdd =>
    rw [hop _ _ _ _ _ hi]
    change command _ s _ = _ at h
    refine command_ending h (fun u r0 r1 r2 r3 hr => ?_) (fun hr => ?_)
    · split at hr
      · cases hr
      · rename_i hz
        obtain ⟨h1, h2, h3⟩ := State.sizeFault_none hz
        have hz := s64_of_nonneg (le_of_lt h2)
        rw [hz] at h2 h3
        split at hr
        · cases hr
        · obtain ⟨p, hp, ho, rfl⟩ := serResult_ok hr
          exact .accumulate _ _ _ _ _ _ _ p _ (.inl ⟨rfl, rfl, rfl, rfl, rfl⟩)
            h1 (by omega) (by omega) hp ho
    · repeat' split at hr
      all_goals first | cases hr | exact absurd hr serResult_ne_endOfData
  case serRun =>
    rw [hop _ _ _ _ _ hi]
    change command _ s _ = _ at h
    refine command_ending h (fun u r0 r1 r2 r3 hr => ?_) (fun hr => ?_)
    · split at hr
      · cases hr
      · rename_i hz
        obtain ⟨h1, h2, h3⟩ := State.sizeFault_none hz
        have hz := s64_of_nonneg (le_of_lt h2)
        rw [hz] at h2 h3
        split at hr
        · cases hr
        · obtain ⟨p, hp, ho, rfl⟩ := serResult_ok hr
          exact .accumulate _ _ _ _ _ _ _ p _ (.inr (.inl ⟨rfl, rfl, rfl, rfl, rfl⟩))
            h1 (by omega) (by omega) hp ho
    · repeat' split at hr
      all_goals first | cases hr | exact absurd hr serResult_ne_endOfData
  case serCopy =>
    rw [hop _ _ _ _ _ hi]
    change command _ s _ = _ at h
    refine command_ending h (fun u r0 r1 r2 r3 hr => ?_) (fun hr => ?_)
    · dsimp only at hr
      split at hr
      · cases hr
      · rename_i hz
        obtain ⟨h1, h2, h3⟩ := State.sizeFault_none hz
        have hz := s64_of_nonneg (le_of_lt h2)
        rw [hz] at h2 h3
        split at hr
        · cases hr
        · obtain ⟨p, hp, ho, rfl⟩ := serResult_ok hr
          exact .accumulate _ _ _ _ _ _ _ p _ (.inr (.inr ⟨rfl, rfl, rfl, _, by omega, rfl, rfl⟩))
            h1 (by omega) (by omega) hp ho
    · dsimp only at hr
      repeat' split at hr
      all_goals first | cases hr | exact absurd hr serResult_ne_endOfData
  case serChecksum =>
    rw [hop _ _ _ _ _ hi]
    change command _ s _ = _ at h
    refine command_ending h (fun u r0 r1 r2 r3 hr => ?_) (fun hr => ?_)
    · repeat' split at hr
      all_goals cases hr
      exact .serChecksum _ _ ‹_› (by omega)
    · repeat' split at hr
      all_goals cases hr
  case serOutput =>
    rw [hop _ _ _ _ _ hi]
    change command _ s _ = _ at h
    refine command_ending h (fun u r0 r1 r2 r3 hr => ?_) (fun hr => ?_)
    · repeat' split at hr
      all_goals cases hr
      · exact .serOutputEmpty _ ‹_› ‹_›
      · rename_i hroom
        exact .serOutput _ ‹_› (of_decide_eq_true (not_not.mp hroom))
    · repeat' split at hr
      all_goals cases hr
  case serFinish =>
    rw [hop _ _ _ _ _ hi]
    change command _ s _ = _ at h
    refine command_ending h (fun u r0 r1 r2 r3 hr => ?_) (fun hr => ?_)
    · repeat' split at hr
      all_goals cases hr
      rename_i h1 h2
      exact .serFinish _ (by cases hs : s.serState <;> simp_all)
    · repeat' split at hr
      all_goals cases hr
  all_goals cases hi

theorem encode_of_decodeCommand {w : CommandWord} {i : Instr} (h : decodeCommand w = .ok i) :
    ∃ v, encode i = .command v ∧ opBits v = opBits w := by
  unfold decodeCommand at h
  split at h
  · cases h
  · split at h
    · rename_i j hj
      cases h
      have hb : opBits w = BitVec.ofNat 8 (opBits w).toNat := by simp
      rw [hb]
      generalize (opBits w).toNat = n at hj
      revert hj
      unfold commandOf
      split <;> intro hj <;> cases hj <;> exact ⟨_, rfl, opBits_commandWord _ _ _ _ _⟩
    · cases h

/-- Every next state a step can answer. -/
theorem step_cases {s t : State} (h : step s = .next t) :
    (s.inputs = [] ∧ t = s) ∨
    (∃ rest, s.inputs = .hardwareReset :: rest ∧ t = { s with inputs := rest }.fullReset) ∨
    (∃ rest r, s.inputs = .readOpcode :: rest ∧ t = { s with inputs := rest, reader := r }) ∨
    (∃ w rest i, s.inputs = .command w :: rest ∧ decodeCommand w = .ok i ∧
      Ending (opBits w) { s with inputs := rest } t) ∨
    (∃ w rest e, s.inputs = .command w :: rest ∧ decodeCommand w = .error e ∧
      t = rejectWord w { s with inputs := rest }) := by
  unfold step at h
  split at h
  · exact .inl ⟨‹_›, by simpa using h.symm⟩
  · rename_i w rest hs
    refine .inr (.inr (.inr ?_))
    unfold stepCommand at h
    split at h
    · rename_i i hi
      obtain ⟨v, hv, ho⟩ := encode_of_decodeCommand hi
      exact .inl ⟨w, rest, i, hs, hi, ho ▸ exec_ending hv h⟩
    · rename_i e he
      exact .inr ⟨w, rest, e, hs, he, by simpa using h.symm⟩
  · rename_i rest hs
    exact .inr (.inl ⟨rest, hs, by simpa using h.symm⟩)
  · rename_i rest hs
    refine .inr (.inr (.inl ?_))
    unfold stepReader at h
    split at h
    · rw [exec_decodeOpcode] at h
      exact ⟨rest, _, hs, by simpa [readOpcode] using h.symm⟩
    · exact ⟨rest, _, hs, by simpa [State.readerAtEnd] using h.symm⟩

end Sys2Proof.Machine
end

