-- ==== Sys2Proof/Laws/PerInstr.lean ====
section
/-! SUPPORT. Lemmas made per instruction. The family EncodeWellFormed: the encoding of an instruction is a
well-formed word or an opcode byte (30_encoding.md rules R80, R84, R95). -/

namespace Sys2Proof.Laws.EncodeWellFormed

/-- The encoding of `i` is well formed. -/
def Statement (i : Instr) : Prop := (encode i).wellFormed = true

theorem nop : Statement .nop :=
  wellFormed_commandWord rfl _ _ _ _

theorem reset : Statement .reset :=
  wellFormed_commandWord rfl _ _ _ _

theorem sessionReset : Statement .sessionReset :=
  wellFormed_commandWord rfl _ _ _ _

theorem rdreg (reg : Field) : Statement (.rdreg reg) :=
  wellFormed_commandWord rfl _ _ _ _

theorem wrreg (reg value : Field) : Statement (.wrreg reg value) :=
  wellFormed_commandWord rfl _ _ _ _

theorem memRead (space address : Field) : Statement (.memRead space address) :=
  wellFormed_commandWord rfl _ _ _ _

theorem memWrite (space address byte : Field) : Statement (.memWrite space address byte) :=
  wellFormed_commandWord rfl _ _ _ _

theorem varintLen32 (value : Field) : Statement (.varintLen32 value) :=
  wellFormed_commandWord rfl _ _ _ _

theorem varintLen64 (value : Field) : Statement (.varintLen64 value) :=
  wellFormed_commandWord rfl _ _ _ _

theorem varintEnc32 (value : Field) : Statement (.varintEnc32 value) :=
  wellFormed_commandWord rfl _ _ _ _

theorem varintEnc64 (value : Field) : Statement (.varintEnc64 value) :=
  wellFormed_commandWord rfl _ _ _ _

theorem varintParse32 : Statement .varintParse32 :=
  wellFormed_commandWord rfl _ _ _ _

theorem varintParse64 : Statement .varintParse64 :=
  wellFormed_commandWord rfl _ _ _ _

theorem parseByte : Statement .parseByte :=
  wellFormed_commandWord rfl _ _ _ _

theorem rhInit : Statement .rhInit :=
  wellFormed_commandWord rfl _ _ _ _

theorem rhHash (space offset : Field) : Statement (.rhHash space offset) :=
  wellFormed_commandWord rfl _ _ _ _

theorem rhUpdate (old leaving entering : Field) : Statement (.rhUpdate old leaving entering) :=
  wellFormed_commandWord rfl _ _ _ _

theorem bhInit (size offset populate : Field) : Statement (.bhInit size offset populate) :=
  wellFormed_commandWord rfl _ _ _ _

theorem bhAddThrough (stop : Field) : Statement (.bhAddThrough stop) :=
  wellFormed_commandWord rfl _ _ _ _

theorem bhFirstMatch (hash tpos : Field) : Statement (.bhFirstMatch hash tpos) :=
  wellFormed_commandWord rfl _ _ _ _

theorem bhNextMatch (block tpos : Field) : Statement (.bhNextMatch block tpos) :=
  wellFormed_commandWord rfl _ _ _ _

theorem bhFindBest (hash tpos : Field) : Statement (.bhFindBest hash tpos) :=
  wellFormed_commandWord rfl _ _ _ _

theorem bmClear : Statement .bmClear :=
  wellFormed_commandWord rfl _ _ _ _

theorem acConfig (near same : Field) : Statement (.acConfig near same) :=
  wellFormed_commandWord rfl _ _ _ _

theorem acReset : Statement .acReset :=
  wellFormed_commandWord rfl _ _ _ _

theorem acEncode (addr here : Field) : Statement (.acEncode addr here) :=
  wellFormed_commandWord rfl _ _ _ _

theorem acDecode (here mode : Field) : Statement (.acDecode here mode) :=
  wellFormed_commandWord rfl _ _ _ _

theorem ctDefault : Statement .ctDefault :=
  wellFormed_commandWord rfl _ _ _ _

theorem ctWrite (opcode entry : Field) : Statement (.ctWrite opcode entry) :=
  wellFormed_commandWord rfl _ _ _ _

theorem ctRead (opcode : Field) : Statement (.ctRead opcode) :=
  wellFormed_commandWord rfl _ _ _ _

theorem ctValidate (maxMode : Field) : Statement (.ctValidate maxMode) :=
  wellFormed_commandWord rfl _ _ _ _

theorem imFirst (inst size mode : Field) : Statement (.imFirst inst size mode) :=
  wellFormed_commandWord rfl _ _ _ _

theorem imSecond (first inst size mode : Field) : Statement (.imSecond first inst size mode) :=
  wellFormed_commandWord rfl _ _ _ _

theorem serStart (flags : Field) : Statement (.serStart flags) :=
  wellFormed_commandWord rfl _ _ _ _

theorem serWindow (mode size pos : Field) : Statement (.serWindow mode size pos) :=
  wellFormed_commandWord rfl _ _ _ _

theorem serAdd (tpos size : Field) : Statement (.serAdd tpos size) :=
  wellFormed_commandWord rfl _ _ _ _

theorem serRun (size byte : Field) : Statement (.serRun size byte) :=
  wellFormed_commandWord rfl _ _ _ _

theorem serCopy (addr size : Field) : Statement (.serCopy addr size) :=
  wellFormed_commandWord rfl _ _ _ _

theorem serChecksum (value : Field) : Statement (.serChecksum value) :=
  wellFormed_commandWord rfl _ _ _ _

theorem serOutput : Statement .serOutput :=
  wellFormed_commandWord rfl _ _ _ _

theorem serFinish : Statement .serFinish :=
  wellFormed_commandWord rfl _ _ _ _

theorem outClear : Statement .outClear :=
  wellFormed_commandWord rfl _ _ _ _

theorem ct00 : Statement .ct00 := rfl

theorem ct01 : Statement .ct01 := rfl

theorem ct02 : Statement .ct02 := rfl

theorem ct03 : Statement .ct03 := rfl

theorem ct04 : Statement .ct04 := rfl

theorem ct05 : Statement .ct05 := rfl

theorem ct06 : Statement .ct06 := rfl

theorem ct07 : Statement .ct07 := rfl

theorem ct08 : Statement .ct08 := rfl

theorem ct09 : Statement .ct09 := rfl

theorem ct0A : Statement .ct0A := rfl

theorem ct0B : Statement .ct0B := rfl

theorem ct0C : Statement .ct0C := rfl

theorem ct0D : Statement .ct0D := rfl

theorem ct0E : Statement .ct0E := rfl

theorem ct0F : Statement .ct0F := rfl

theorem ct10 : Statement .ct10 := rfl

theorem ct11 : Statement .ct11 := rfl

theorem ct12 : Statement .ct12 := rfl

theorem ct13 : Statement .ct13 := rfl

theorem ct14 : Statement .ct14 := rfl

theorem ct15 : Statement .ct15 := rfl

theorem ct16 : Statement .ct16 := rfl

theorem ct17 : Statement .ct17 := rfl

theorem ct18 : Statement .ct18 := rfl

theorem ct19 : Statement .ct19 := rfl

theorem ct1A : Statement .ct1A := rfl

theorem ct1B : Statement .ct1B := rfl

theorem ct1C : Statement .ct1C := rfl

theorem ct1D : Statement .ct1D := rfl

theorem ct1E : Statement .ct1E := rfl

theorem ct1F : Statement .ct1F := rfl

theorem ct20 : Statement .ct20 := rfl

theorem ct21 : Statement .ct21 := rfl

theorem ct22 : Statement .ct22 := rfl

theorem ct23 : Statement .ct23 := rfl

theorem ct24 : Statement .ct24 := rfl

theorem ct25 : Statement .ct25 := rfl

theorem ct26 : Statement .ct26 := rfl

theorem ct27 : Statement .ct27 := rfl

theorem ct28 : Statement .ct28 := rfl

theorem ct29 : Statement .ct29 := rfl

theorem ct2A : Statement .ct2A := rfl

theorem ct2B : Statement .ct2B := rfl

theorem ct2C : Statement .ct2C := rfl

theorem ct2D : Statement .ct2D := rfl

theorem ct2E : Statement .ct2E := rfl

theorem ct2F : Statement .ct2F := rfl

theorem ct30 : Statement .ct30 := rfl

theorem ct31 : Statement .ct31 := rfl

theorem ct32 : Statement .ct32 := rfl

theorem ct33 : Statement .ct33 := rfl

theorem ct34 : Statement .ct34 := rfl

theorem ct35 : Statement .ct35 := rfl

theorem ct36 : Statement .ct36 := rfl

theorem ct37 : Statement .ct37 := rfl

theorem ct38 : Statement .ct38 := rfl

theorem ct39 : Statement .ct39 := rfl

theorem ct3A : Statement .ct3A := rfl

theorem ct3B : Statement .ct3B := rfl

theorem ct3C : Statement .ct3C := rfl

theorem ct3D : Statement .ct3D := rfl

theorem ct3E : Statement .ct3E := rfl

theorem ct3F : Statement .ct3F := rfl

theorem ct40 : Statement .ct40 := rfl

theorem ct41 : Statement .ct41 := rfl

theorem ct42 : Statement .ct42 := rfl

theorem ct43 : Statement .ct43 := rfl

theorem ct44 : Statement .ct44 := rfl

theorem ct45 : Statement .ct45 := rfl

theorem ct46 : Statement .ct46 := rfl

theorem ct47 : Statement .ct47 := rfl

theorem ct48 : Statement .ct48 := rfl

theorem ct49 : Statement .ct49 := rfl

theorem ct4A : Statement .ct4A := rfl

theorem ct4B : Statement .ct4B := rfl

theorem ct4C : Statement .ct4C := rfl

theorem ct4D : Statement .ct4D := rfl

theorem ct4E : Statement .ct4E := rfl

theorem ct4F : Statement .ct4F := rfl

theorem ct50 : Statement .ct50 := rfl

theorem ct51 : Statement .ct51 := rfl

theorem ct52 : Statement .ct52 := rfl

theorem ct53 : Statement .ct53 := rfl

theorem ct54 : Statement .ct54 := rfl

theorem ct55 : Statement .ct55 := rfl

theorem ct56 : Statement .ct56 := rfl

theorem ct57 : Statement .ct57 := rfl

theorem ct58 : Statement .ct58 := rfl

theorem ct59 : Statement .ct59 := rfl

theorem ct5A : Statement .ct5A := rfl

theorem ct5B : Statement .ct5B := rfl

theorem ct5C : Statement .ct5C := rfl

theorem ct5D : Statement .ct5D := rfl

theorem ct5E : Statement .ct5E := rfl

theorem ct5F : Statement .ct5F := rfl

theorem ct60 : Statement .ct60 := rfl

theorem ct61 : Statement .ct61 := rfl

theorem ct62 : Statement .ct62 := rfl

theorem ct63 : Statement .ct63 := rfl

theorem ct64 : Statement .ct64 := rfl

theorem ct65 : Statement .ct65 := rfl

theorem ct66 : Statement .ct66 := rfl

theorem ct67 : Statement .ct67 := rfl

theorem ct68 : Statement .ct68 := rfl

theorem ct69 : Statement .ct69 := rfl

theorem ct6A : Statement .ct6A := rfl

theorem ct6B : Statement .ct6B := rfl

theorem ct6C : Statement .ct6C := rfl

theorem ct6D : Statement .ct6D := rfl

theorem ct6E : Statement .ct6E := rfl

theorem ct6F : Statement .ct6F := rfl

theorem ct70 : Statement .ct70 := rfl

theorem ct71 : Statement .ct71 := rfl

theorem ct72 : Statement .ct72 := rfl

theorem ct73 : Statement .ct73 := rfl

theorem ct74 : Statement .ct74 := rfl

theorem ct75 : Statement .ct75 := rfl

theorem ct76 : Statement .ct76 := rfl

theorem ct77 : Statement .ct77 := rfl

theorem ct78 : Statement .ct78 := rfl

theorem ct79 : Statement .ct79 := rfl

theorem ct7A : Statement .ct7A := rfl

theorem ct7B : Statement .ct7B := rfl

theorem ct7C : Statement .ct7C := rfl

theorem ct7D : Statement .ct7D := rfl

theorem ct7E : Statement .ct7E := rfl

theorem ct7F : Statement .ct7F := rfl

theorem ct80 : Statement .ct80 := rfl

theorem ct81 : Statement .ct81 := rfl

theorem ct82 : Statement .ct82 := rfl

theorem ct83 : Statement .ct83 := rfl

theorem ct84 : Statement .ct84 := rfl

theorem ct85 : Statement .ct85 := rfl

theorem ct86 : Statement .ct86 := rfl

theorem ct87 : Statement .ct87 := rfl

theorem ct88 : Statement .ct88 := rfl

theorem ct89 : Statement .ct89 := rfl

theorem ct8A : Statement .ct8A := rfl

theorem ct8B : Statement .ct8B := rfl

theorem ct8C : Statement .ct8C := rfl

theorem ct8D : Statement .ct8D := rfl

theorem ct8E : Statement .ct8E := rfl

theorem ct8F : Statement .ct8F := rfl

theorem ct90 : Statement .ct90 := rfl

theorem ct91 : Statement .ct91 := rfl

theorem ct92 : Statement .ct92 := rfl

theorem ct93 : Statement .ct93 := rfl

theorem ct94 : Statement .ct94 := rfl

theorem ct95 : Statement .ct95 := rfl

theorem ct96 : Statement .ct96 := rfl

theorem ct97 : Statement .ct97 := rfl

theorem ct98 : Statement .ct98 := rfl

theorem ct99 : Statement .ct99 := rfl

theorem ct9A : Statement .ct9A := rfl

theorem ct9B : Statement .ct9B := rfl

theorem ct9C : Statement .ct9C := rfl

theorem ct9D : Statement .ct9D := rfl

theorem ct9E : Statement .ct9E := rfl

theorem ct9F : Statement .ct9F := rfl

theorem ctA0 : Statement .ctA0 := rfl

theorem ctA1 : Statement .ctA1 := rfl

theorem ctA2 : Statement .ctA2 := rfl

theorem ctA3 : Statement .ctA3 := rfl

theorem ctA4 : Statement .ctA4 := rfl

theorem ctA5 : Statement .ctA5 := rfl

theorem ctA6 : Statement .ctA6 := rfl

theorem ctA7 : Statement .ctA7 := rfl

theorem ctA8 : Statement .ctA8 := rfl

theorem ctA9 : Statement .ctA9 := rfl

theorem ctAA : Statement .ctAA := rfl

theorem ctAB : Statement .ctAB := rfl

theorem ctAC : Statement .ctAC := rfl

theorem ctAD : Statement .ctAD := rfl

theorem ctAE : Statement .ctAE := rfl

theorem ctAF : Statement .ctAF := rfl

theorem ctB0 : Statement .ctB0 := rfl

theorem ctB1 : Statement .ctB1 := rfl

theorem ctB2 : Statement .ctB2 := rfl

theorem ctB3 : Statement .ctB3 := rfl

theorem ctB4 : Statement .ctB4 := rfl

theorem ctB5 : Statement .ctB5 := rfl

theorem ctB6 : Statement .ctB6 := rfl

theorem ctB7 : Statement .ctB7 := rfl

theorem ctB8 : Statement .ctB8 := rfl

theorem ctB9 : Statement .ctB9 := rfl

theorem ctBA : Statement .ctBA := rfl

theorem ctBB : Statement .ctBB := rfl

theorem ctBC : Statement .ctBC := rfl

theorem ctBD : Statement .ctBD := rfl

theorem ctBE : Statement .ctBE := rfl

theorem ctBF : Statement .ctBF := rfl

theorem ctC0 : Statement .ctC0 := rfl

theorem ctC1 : Statement .ctC1 := rfl

theorem ctC2 : Statement .ctC2 := rfl

theorem ctC3 : Statement .ctC3 := rfl

theorem ctC4 : Statement .ctC4 := rfl

theorem ctC5 : Statement .ctC5 := rfl

theorem ctC6 : Statement .ctC6 := rfl

theorem ctC7 : Statement .ctC7 := rfl

theorem ctC8 : Statement .ctC8 := rfl

theorem ctC9 : Statement .ctC9 := rfl

theorem ctCA : Statement .ctCA := rfl

theorem ctCB : Statement .ctCB := rfl

theorem ctCC : Statement .ctCC := rfl

theorem ctCD : Statement .ctCD := rfl

theorem ctCE : Statement .ctCE := rfl

theorem ctCF : Statement .ctCF := rfl

theorem ctD0 : Statement .ctD0 := rfl

theorem ctD1 : Statement .ctD1 := rfl

theorem ctD2 : Statement .ctD2 := rfl

theorem ctD3 : Statement .ctD3 := rfl

theorem ctD4 : Statement .ctD4 := rfl

theorem ctD5 : Statement .ctD5 := rfl

theorem ctD6 : Statement .ctD6 := rfl

theorem ctD7 : Statement .ctD7 := rfl

theorem ctD8 : Statement .ctD8 := rfl

theorem ctD9 : Statement .ctD9 := rfl

theorem ctDA : Statement .ctDA := rfl

theorem ctDB : Statement .ctDB := rfl

theorem ctDC : Statement .ctDC := rfl

theorem ctDD : Statement .ctDD := rfl

theorem ctDE : Statement .ctDE := rfl

theorem ctDF : Statement .ctDF := rfl

theorem ctE0 : Statement .ctE0 := rfl

theorem ctE1 : Statement .ctE1 := rfl

theorem ctE2 : Statement .ctE2 := rfl

theorem ctE3 : Statement .ctE3 := rfl

theorem ctE4 : Statement .ctE4 := rfl

theorem ctE5 : Statement .ctE5 := rfl

theorem ctE6 : Statement .ctE6 := rfl

theorem ctE7 : Statement .ctE7 := rfl

theorem ctE8 : Statement .ctE8 := rfl

theorem ctE9 : Statement .ctE9 := rfl

theorem ctEA : Statement .ctEA := rfl

theorem ctEB : Statement .ctEB := rfl

theorem ctEC : Statement .ctEC := rfl

theorem ctED : Statement .ctED := rfl

theorem ctEE : Statement .ctEE := rfl

theorem ctEF : Statement .ctEF := rfl

theorem ctF0 : Statement .ctF0 := rfl

theorem ctF1 : Statement .ctF1 := rfl

theorem ctF2 : Statement .ctF2 := rfl

theorem ctF3 : Statement .ctF3 := rfl

theorem ctF4 : Statement .ctF4 := rfl

theorem ctF5 : Statement .ctF5 := rfl

theorem ctF6 : Statement .ctF6 := rfl

theorem ctF7 : Statement .ctF7 := rfl

theorem ctF8 : Statement .ctF8 := rfl

theorem ctF9 : Statement .ctF9 := rfl

theorem ctFA : Statement .ctFA := rfl

theorem ctFB : Statement .ctFB := rfl

theorem ctFC : Statement .ctFC := rfl

theorem ctFD : Statement .ctFD := rfl

theorem ctFE : Statement .ctFE := rfl

theorem ctFF : Statement .ctFF := rfl

end Sys2Proof.Laws.EncodeWellFormed
end

