-- ==== Sys2Proof/Laws/Window.lean ====
section
/-! SUPPORT. The window being accumulated: what the capacity check answers, and on which parts of the state
its reading depends. -/

namespace Sys2Proof.Machine

/-! ### The capacity check -/

theorem State.hasRoom_iff {s : State} {sp : Space} {n : Nat} :
    s.hasRoom sp n = true ↔ s.len sp + n ≤ Params.cap s.params sp := by simp [State.hasRoom]

/-- Where the plan and the operand bytes fit, no space overflows (45_serializer.md rules R217 to R219). -/
theorem State.overflow_of_fits {s : State} {p : Plan} {sp : Space} {n : Nat} (h : s.fits p sp n) :
    s.overflow sp p.bytes.length n = none := by
  unfold State.fits at h
  unfold State.overflow
  split at h <;> rename_i hi
  · rw [if_pos hi, if_pos (hasRoom_iff.mpr (by simpa [State.len, Params.cap, Nat.add_assoc] using h))]
  · have h1 : s.hasRoom .inst p.bytes.length = true := hasRoom_iff.mpr h.1
    have h2 : s.hasRoom sp n = true := hasRoom_iff.mpr h.2
    rw [if_neg hi]
    by_cases hs : sp = .data
    · subst hs; simp [h1, h2]
    · simp [hs, h1, h2]

/-- Where they do not fit, the space that overflows is the one `lacks` names (45_serializer.md rules R217 to
R219). -/
theorem State.overflow_of_lacks {s : State} {p : Plan} {sp : Space} {n full : Nat}
    (h : s.lacks p sp n full) :
    ∃ x, s.overflow sp p.bytes.length n = some x ∧ full = x.number := by
  have room : ∀ sp' m, ¬ s.len sp' + m ≤ Params.cap s.params sp' → s.hasRoom sp' m = false :=
    fun sp' m hm => by simpa [State.hasRoom] using hm
  unfold State.lacks at h
  unfold State.overflow
  dsimp only at h
  split at h <;> rename_i hi
  · refine ⟨.inst, ?_, h.2⟩
    rw [if_pos hi, if_neg (by rw [room .inst _ (by simp only [State.len, Params.cap]; omega)]; decide)]
  · rw [if_neg hi]
    obtain ⟨rfl, h, rfl⟩ | ⟨rfl, h1, h, rfl⟩ | ⟨rfl, h, rfl⟩ | ⟨rfl, h1, h, rfl⟩ := h
    · exact ⟨.data, by
        rw [if_pos rfl, room .data _ (by simp only [State.len, Params.cap]; omega)]; rfl, rfl⟩
    · exact ⟨.inst, by
        rw [if_pos rfl, hasRoom_iff.mpr (by simpa [State.len, Params.cap] using h1),
          room .inst _ (by simp only [State.len, Params.cap]; omega)]; rfl, rfl⟩
    · exact ⟨.inst, by
        rw [if_neg (by decide), room .inst _ (by simp only [State.len, Params.cap]; omega)]; rfl, rfl⟩
    · exact ⟨.addr, by
        rw [if_neg (by decide), hasRoom_iff.mpr (by simp only [State.len, Params.cap]; omega),
          room .addr _ (by simp only [State.len, Params.cap]; omega)]; rfl, rfl⟩

/-! ### What reading the window depends on -/

/-- The parts of a state that the reading of its window depends on. -/
structure State.SameWindow (s t : State) : Prop where
  inst : ∀ a, t.readByte .inst a = s.readByte .inst a
  data : ∀ a, t.readByte .data a = s.readByte .data a
  addr : ∀ a, t.readByte .addr a = s.readByte .addr a
  instLen : t.instLen = s.instLen
  dataLen : t.dataLen = s.dataLen
  addrLen : t.addrLen = s.addrLen
  table : ∀ op, t.ctEntry op = s.ctEntry op
  interleaved : t.interleaved = s.interleaved
  srcSize : t.winSrcSize = s.winSrcSize

/-- A half of an entry is read alike in two states with the same window. -/
theorem State.SameWindow.readHalf_eq {s t : State} (h : s.SameWindow t) (hf : Half) (p : ReadPos) :
    t.readHalf hf p = s.readHalf hf p := by
  have hi : t.readByte .inst = s.readByte .inst := funext h.inst
  have hd : t.readByte .data = s.readByte .data := funext h.data
  have ha : t.readByte .addr = s.readByte .addr := funext h.addr
  have size : ∀ q, t.readSize hf q = s.readSize hf q := fun q => by
    simp only [State.readSize, hi, h.instLen]
  have sink : ∀ sp, t.sink sp = s.sink sp := fun sp => by simp only [State.sink, h.interleaved]
  have pos : ∀ sp q, t.sinkPos sp q = s.sinkPos sp q := fun sp q => by
    simp only [State.sinkPos, h.interleaved]
  have set : ∀ sp q a, t.setSinkPos sp q a = s.setSinkPos sp q a := fun sp q a => by
    simp only [State.setSinkPos, h.interleaved]
  have bytes : ∀ sp, sp = .data ∨ sp = .addr →
      t.readByte (s.sink sp) = s.readByte (s.sink sp) ∧ t.len (s.sink sp) = s.len (s.sink sp) := by
    rintro sp (rfl | rfl) <;> unfold State.sink <;> split <;>
      first | exact ⟨hi, h.instLen⟩ | exact ⟨hd, h.dataLen⟩ | exact ⟨ha, h.addrLen⟩
  have data : ∀ n q, t.readData n q = s.readData n q := fun n q => by
    simp only [State.readData, State.readBytes, sink, pos, set, bytes .data (.inl rfl)]
  have address : ∀ m q, t.readAddress m q = s.readAddress m q := fun m q => by
    simp only [State.readAddress, sink, pos, set, bytes .addr (.inr rfl), h.srcSize]
  simp only [State.readHalf, State.readOperands, size, data, address]

/-- An opcode byte leaves the same reader in two states with the same window and the same reader. -/
theorem State.SameWindow.readerAfter_eq {s t : State} (h : s.SameWindow t) (same : t.reader = s.reader)
    (op : Byte) : t.readerAfter op = s.readerAfter op := by
  simp only [State.readerAfter, State.readEntry, h.table, h.readHalf_eq, same]

/-- A turn of the reader is the same over two states with the same window. -/
theorem State.SameWindow.turn_eq {s t : State} (h : s.SameWindow t) (r : Reader) : t.turn r = s.turn r := by
  have h' : { s with reader := r }.SameWindow { t with reader := r } :=
    ⟨h.inst, h.data, h.addr, h.instLen, h.dataLen, h.addrLen, h.table, h.interleaved, h.srcSize⟩
  unfold State.turn
  rw [h'.readerAfter_eq rfl, h.inst, h.instLen]

/-- So is what the window decodes to, where the cache and the counters of the window agree too. -/
theorem State.SameWindow.reads {s t : State} (h : s.SameWindow t) {ds : List Delta}
    (cache : t.cache = s.cache) (target : t.winTargetLen = s.winTargetLen)
    (last : t.lastOpcodeIndex = s.lastOpcodeIndex) (hs : s.WindowReads ds) : t.WindowReads ds := by
  have turns : ∀ n, t.turns n = s.turns n := by
    intro n
    induction n with
    | zero => simp only [State.turns, cache]
    | succ n ih => simp only [State.turns, ih, h.turn_eq]
  simpa only [State.WindowReads, turns, h.instLen, h.dataLen, h.addrLen, h.interleaved, cache, target,
    last] using hs

/-- An empty window decodes to nothing (45_serializer.md rule R222). -/
theorem State.windowReads_nil {s : State} (inst : s.instLen = 0) (data : s.dataLen = 0)
    (addr : s.addrLen = 0) (cache : s.cache = s.cache.clear) (target : s.winTargetLen = 0)
    (last : s.lastOpcodeIndex = -1) : s.WindowReads [] :=
  ⟨0, rfl, inst.symm, fun _ => ⟨data.symm, addr.symm⟩, cache.symm, target.symm, .inl last⟩

/-- A window with no opcode byte decodes to nothing else. -/
theorem State.windowReads_of_empty {s : State} {ds : List Delta} (inst : s.instLen = 0)
    (hs : s.WindowReads ds) : ds = [] := by
  obtain ⟨n, hd, -⟩ := hs
  have idle : ∀ n, s.turns n = Reader.atStart s.cache.nearSize s.cache.sameSize := by
    intro n
    induction n with
    | zero => rfl
    | succ n ih => simp only [State.turns, ih, State.turn, inst, Nat.not_lt_zero, if_false]
  rw [idle] at hd
  exact hd.symm

end Sys2Proof.Machine
end

