-- ==== Sys2Proof/Tests/Slice0.lean ====
section
/-! SUPPORT. The model's own tests: ill-formed terms refused, words written out from the encoding tables,
single steps with the results of 95_test_vectors.md, and for every obligation with hypotheses a state and
operands that meet them. -/

namespace Sys2Proof.Tests

-- One theorem at a time: a hundred kernel evaluations waiting at once take more threads than the memory allows.
set_option Elab.async false

open Sys2Proof.Machine

/-! ### Well-formedness (00_scope.md rule R5; 30_encoding.md rules R80, R84) -/

/-- Small parameters the witnesses use: CFG-S of 95_test_vectors.md with spaces of 16 bytes. -/
def small : Params :=
  { b := 2, w := 8, m := 3, t := 2, maxMatches := 8, srcCap := 16, tgtCap := 16, inCap := 16, dataCap := 16,
    instCap := 16, addrCap := 16, outCap := 16 }

theorem test_params_wellFormed : small.wellFormed = true ∧ Config.resetParams.wellFormed = true := by decide

/-- One ill-formed choice for each constraint of rule R5. -/
theorem test_params_refused :
    ({ small with b := 0 }.wellFormed = false ∧ { small with w := 0 }.wellFormed = false ∧
      { small with w := 64 }.wellFormed = false ∧ { small with m := 256 }.wellFormed = false ∧
      { small with t := 9 }.wellFormed = false ∧ { small with maxMatches := 0 }.wellFormed = false) ∧
    { small with srcCap := 2 ^ 31 }.wellFormed = false ∧ { small with tgtCap := 2 ^ 31 }.wellFormed = false ∧
    { small with inCap := 2 ^ 31 }.wellFormed = false ∧ { small with dataCap := 2 ^ 31 }.wellFormed = false ∧
    { small with instCap := 2 ^ 31 }.wellFormed = false ∧
    { small with addrCap := 2 ^ 31 }.wellFormed = false ∧
    { small with outCap := 2 ^ 31 }.wellFormed = false := by decide

/-- A reserved bit set, and the first and last number of each gap of the command map (rule R84). -/
theorem test_words_refused :
    (Encoded.command 0x100).wellFormed = false ∧ (Encoded.command 0x8000000000000000).wellFormed = false ∧
    ([0x07, 0x0F, 0x17, 0x1F, 0x23, 0x2F, 0x36, 0x3F, 0x44, 0x4F, 0x56, 0x5F, 0x69, 0xFF].all fun n =>
      (Encoded.command (BitVec.ofNat 320 n)).wellFormed == false) = true ∧
    ([0x00, 0x06, 0x10, 0x16, 0x20, 0x22, 0x30, 0x35, 0x40, 0x43, 0x50, 0x55, 0x60, 0x68].all fun n =>
      (Encoded.command (BitVec.ofNat 320 n)).wellFormed) = true := by decide +kernel

/-! ### Decoding, word by word -/

/-- What the decoder reads from a command word. -/
def reads (w : CommandWord) : Option Instr := (decodeCommand w).toOption

/-- Rules R80, R83: every lane at a value of its own, the lanes not listed too. The lanes of a literal stand
last first. -/
theorem test_decode_system :
    reads 0x31323334353637382122232425262728111213141516171801020304050607080000000000000000 =
      some .nop ∧
    reads 0x31323334353637382122232425262728111213141516171801020304050607080000000000000001 =
      some .reset ∧
    reads 0x31323334353637382122232425262728111213141516171801020304050607080000000000000002 =
      some .sessionReset ∧
    reads 0x31323334353637382122232425262728111213141516171801020304050607080000000000000003 =
      some (.rdreg 0x0102030405060708) ∧
    reads 0x31323334353637382122232425262728111213141516171801020304050607080000000000000004 =
      some (.wrreg 0x0102030405060708 0x1112131415161718) ∧
    reads 0x31323334353637382122232425262728111213141516171801020304050607080000000000000005 =
      some (.memRead 0x0102030405060708 0x1112131415161718) ∧
    reads 0x31323334353637382122232425262728111213141516171801020304050607080000000000000006 =
      some (.memWrite 0x0102030405060708 0x1112131415161718 0x2122232425262728) := by
  decide +kernel

/-- Rules R80, R83: every lane at a value of its own, the lanes not listed too. The lanes of a literal stand
last first. -/
theorem test_decode_varint :
    reads 0x31323334353637382122232425262728111213141516171801020304050607080000000000000010 =
      some (.varintLen32 0x0102030405060708) ∧
    reads 0x31323334353637382122232425262728111213141516171801020304050607080000000000000011 =
      some (.varintLen64 0x0102030405060708) ∧
    reads 0x31323334353637382122232425262728111213141516171801020304050607080000000000000012 =
      some (.varintEnc32 0x0102030405060708) ∧
    reads 0x31323334353637382122232425262728111213141516171801020304050607080000000000000013 =
      some (.varintEnc64 0x0102030405060708) ∧
    reads 0x31323334353637382122232425262728111213141516171801020304050607080000000000000014 =
      some .varintParse32 ∧
    reads 0x31323334353637382122232425262728111213141516171801020304050607080000000000000015 =
      some .varintParse64 ∧
    reads 0x31323334353637382122232425262728111213141516171801020304050607080000000000000016 =
      some .parseByte := by
  decide +kernel

/-- Rules R80, R83: every lane at a value of its own, the lanes not listed too. The lanes of a literal stand
last first. -/
theorem test_decode_rollingHash :
    reads 0x31323334353637382122232425262728111213141516171801020304050607080000000000000020 =
      some .rhInit ∧
    reads 0x31323334353637382122232425262728111213141516171801020304050607080000000000000021 =
      some (.rhHash 0x0102030405060708 0x1112131415161718) ∧
    reads 0x31323334353637382122232425262728111213141516171801020304050607080000000000000022 =
      some (.rhUpdate 0x0102030405060708 0x1112131415161718 0x2122232425262728) := by
  decide +kernel

/-- Rules R80, R83: every lane at a value of its own, the lanes not listed too. The lanes of a literal stand
last first. -/
theorem test_decode_blockHash :
    reads 0x31323334353637382122232425262728111213141516171801020304050607080000000000000030 =
      some (.bhInit 0x0102030405060708 0x1112131415161718 0x2122232425262728) ∧
    reads 0x31323334353637382122232425262728111213141516171801020304050607080000000000000031 =
      some (.bhAddThrough 0x0102030405060708) ∧
    reads 0x31323334353637382122232425262728111213141516171801020304050607080000000000000032 =
      some (.bhFirstMatch 0x0102030405060708 0x1112131415161718) ∧
    reads 0x31323334353637382122232425262728111213141516171801020304050607080000000000000033 =
      some (.bhNextMatch 0x0102030405060708 0x1112131415161718) ∧
    reads 0x31323334353637382122232425262728111213141516171801020304050607080000000000000034 =
      some (.bhFindBest 0x0102030405060708 0x1112131415161718) ∧
    reads 0x31323334353637382122232425262728111213141516171801020304050607080000000000000035 =
      some .bmClear := by
  decide +kernel

/-- Rules R80, R83: every lane at a value of its own, the lanes not listed too. The lanes of a literal stand
last first. -/
theorem test_decode_addressCache :
    reads 0x31323334353637382122232425262728111213141516171801020304050607080000000000000040 =
      some (.acConfig 0x0102030405060708 0x1112131415161718) ∧
    reads 0x31323334353637382122232425262728111213141516171801020304050607080000000000000041 =
      some .acReset ∧
    reads 0x31323334353637382122232425262728111213141516171801020304050607080000000000000042 =
      some (.acEncode 0x0102030405060708 0x1112131415161718) ∧
    reads 0x31323334353637382122232425262728111213141516171801020304050607080000000000000043 =
      some (.acDecode 0x0102030405060708 0x1112131415161718) := by
  decide +kernel

/-- Rules R80, R83: every lane at a value of its own, the lanes not listed too. The lanes of a literal stand
last first. -/
theorem test_decode_codeTable :
    reads 0x31323334353637382122232425262728111213141516171801020304050607080000000000000050 =
      some .ctDefault ∧
    reads 0x31323334353637382122232425262728111213141516171801020304050607080000000000000051 =
      some (.ctWrite 0x0102030405060708 0x1112131415161718) ∧
    reads 0x31323334353637382122232425262728111213141516171801020304050607080000000000000052 =
      some (.ctRead 0x0102030405060708) ∧
    reads 0x31323334353637382122232425262728111213141516171801020304050607080000000000000053 =
      some (.ctValidate 0x0102030405060708) ∧
    reads 0x31323334353637382122232425262728111213141516171801020304050607080000000000000054 =
      some (.imFirst 0x0102030405060708 0x1112131415161718 0x2122232425262728) ∧
    reads 0x31323334353637382122232425262728111213141516171801020304050607080000000000000055 =
      some (.imSecond 0x0102030405060708 0x1112131415161718 0x2122232425262728 0x3132333435363738) := by
  decide +kernel

/-- Rules R80, R83: every lane at a value of its own, the lanes not listed too. The lanes of a literal stand
last first. -/
theorem test_decode_serializer :
    reads 0x31323334353637382122232425262728111213141516171801020304050607080000000000000060 =
      some (.serStart 0x0102030405060708) ∧
    reads 0x31323334353637382122232425262728111213141516171801020304050607080000000000000061 =
      some (.serWindow 0x0102030405060708 0x1112131415161718 0x2122232425262728) ∧
    reads 0x31323334353637382122232425262728111213141516171801020304050607080000000000000062 =
      some (.serAdd 0x0102030405060708 0x1112131415161718) ∧
    reads 0x31323334353637382122232425262728111213141516171801020304050607080000000000000063 =
      some (.serRun 0x0102030405060708 0x1112131415161718) ∧
    reads 0x31323334353637382122232425262728111213141516171801020304050607080000000000000064 =
      some (.serCopy 0x0102030405060708 0x1112131415161718) ∧
    reads 0x31323334353637382122232425262728111213141516171801020304050607080000000000000065 =
      some (.serChecksum 0x0102030405060708) ∧
    reads 0x31323334353637382122232425262728111213141516171801020304050607080000000000000066 =
      some .serOutput ∧
    reads 0x31323334353637382122232425262728111213141516171801020304050607080000000000000067 =
      some .serFinish ∧
    reads 0x31323334353637382122232425262728111213141516171801020304050607080000000000000068 =
      some .outClear := by
  decide +kernel

/-- Rule R95: the opcode bytes 0x00 to 0x3F. -/
theorem test_decode_opcodes0 :
    ([
      (0x00, .ct00), (0x01, .ct01), (0x02, .ct02), (0x03, .ct03), (0x04, .ct04), (0x05, .ct05),
      (0x06, .ct06), (0x07, .ct07), (0x08, .ct08), (0x09, .ct09), (0x0A, .ct0A), (0x0B, .ct0B),
      (0x0C, .ct0C), (0x0D, .ct0D), (0x0E, .ct0E), (0x0F, .ct0F), (0x10, .ct10), (0x11, .ct11),
      (0x12, .ct12), (0x13, .ct13), (0x14, .ct14), (0x15, .ct15), (0x16, .ct16), (0x17, .ct17),
      (0x18, .ct18), (0x19, .ct19), (0x1A, .ct1A), (0x1B, .ct1B), (0x1C, .ct1C), (0x1D, .ct1D),
      (0x1E, .ct1E), (0x1F, .ct1F), (0x20, .ct20), (0x21, .ct21), (0x22, .ct22), (0x23, .ct23),
      (0x24, .ct24), (0x25, .ct25), (0x26, .ct26), (0x27, .ct27), (0x28, .ct28), (0x29, .ct29),
      (0x2A, .ct2A), (0x2B, .ct2B), (0x2C, .ct2C), (0x2D, .ct2D), (0x2E, .ct2E), (0x2F, .ct2F),
      (0x30, .ct30), (0x31, .ct31), (0x32, .ct32), (0x33, .ct33), (0x34, .ct34), (0x35, .ct35),
      (0x36, .ct36), (0x37, .ct37), (0x38, .ct38), (0x39, .ct39), (0x3A, .ct3A), (0x3B, .ct3B),
      (0x3C, .ct3C), (0x3D, .ct3D), (0x3E, .ct3E), (0x3F, .ct3F)] :
      List (Byte × Instr)).all (fun e => decodeOpcode e.1 == e.2) = true := by
  decide +kernel

/-- Rules R94, R96 to R101: the packed entries of the rows 0x00 to 0x3F of the opcode table. -/
theorem test_defaultTable0 :
    (List.range 64).map (fun n => (defaultEntry (0 + n)).pack) =
      [
       0x2, 0x1, 0x101, 0x201, 0x301, 0x401,
       0x501, 0x601, 0x701, 0x801, 0x901, 0xa01,
       0xb01, 0xc01, 0xd01, 0xe01, 0xf01, 0x1001,
       0x1101, 0x3, 0x403, 0x503, 0x603, 0x703,
       0x803, 0x903, 0xa03, 0xb03, 0xc03, 0xd03,
       0xe03, 0xf03, 0x1003, 0x1103, 0x1203, 0x10003,
       0x10403, 0x10503, 0x10603, 0x10703, 0x10803, 0x10903,
       0x10a03, 0x10b03, 0x10c03, 0x10d03, 0x10e03, 0x10f03,
       0x11003, 0x11103, 0x11203, 0x20003, 0x20403, 0x20503,
       0x20603, 0x20703, 0x20803, 0x20903, 0x20a03, 0x20b03,
       0x20c03, 0x20d03, 0x20e03, 0x20f03] := by
  decide +kernel

/-- Rule R95: the opcode bytes 0x40 to 0x7F. -/
theorem test_decode_opcodes1 :
    ([
      (0x40, .ct40), (0x41, .ct41), (0x42, .ct42), (0x43, .ct43), (0x44, .ct44), (0x45, .ct45),
      (0x46, .ct46), (0x47, .ct47), (0x48, .ct48), (0x49, .ct49), (0x4A, .ct4A), (0x4B, .ct4B),
      (0x4C, .ct4C), (0x4D, .ct4D), (0x4E, .ct4E), (0x4F, .ct4F), (0x50, .ct50), (0x51, .ct51),
      (0x52, .ct52), (0x53, .ct53), (0x54, .ct54), (0x55, .ct55), (0x56, .ct56), (0x57, .ct57),
      (0x58, .ct58), (0x59, .ct59), (0x5A, .ct5A), (0x5B, .ct5B), (0x5C, .ct5C), (0x5D, .ct5D),
      (0x5E, .ct5E), (0x5F, .ct5F), (0x60, .ct60), (0x61, .ct61), (0x62, .ct62), (0x63, .ct63),
      (0x64, .ct64), (0x65, .ct65), (0x66, .ct66), (0x67, .ct67), (0x68, .ct68), (0x69, .ct69),
      (0x6A, .ct6A), (0x6B, .ct6B), (0x6C, .ct6C), (0x6D, .ct6D), (0x6E, .ct6E), (0x6F, .ct6F),
      (0x70, .ct70), (0x71, .ct71), (0x72, .ct72), (0x73, .ct73), (0x74, .ct74), (0x75, .ct75),
      (0x76, .ct76), (0x77, .ct77), (0x78, .ct78), (0x79, .ct79), (0x7A, .ct7A), (0x7B, .ct7B),
      (0x7C, .ct7C), (0x7D, .ct7D), (0x7E, .ct7E), (0x7F, .ct7F)] :
      List (Byte × Instr)).all (fun e => decodeOpcode e.1 == e.2) = true := by
  decide +kernel

/-- Rules R94, R96 to R101: the packed entries of the rows 0x40 to 0x7F of the opcode table. -/
theorem test_defaultTable1 :
    (List.range 64).map (fun n => (defaultEntry (64 + n)).pack) =
      [
       0x21003, 0x21103, 0x21203, 0x30003, 0x30403, 0x30503,
       0x30603, 0x30703, 0x30803, 0x30903, 0x30a03, 0x30b03,
       0x30c03, 0x30d03, 0x30e03, 0x30f03, 0x31003, 0x31103,
       0x31203, 0x40003, 0x40403, 0x40503, 0x40603, 0x40703,
       0x40803, 0x40903, 0x40a03, 0x40b03, 0x40c03, 0x40d03,
       0x40e03, 0x40f03, 0x41003, 0x41103, 0x41203, 0x50003,
       0x50403, 0x50503, 0x50603, 0x50703, 0x50803, 0x50903,
       0x50a03, 0x50b03, 0x50c03, 0x50d03, 0x50e03, 0x50f03,
       0x51003, 0x51103, 0x51203, 0x60003, 0x60403, 0x60503,
       0x60603, 0x60703, 0x60803, 0x60903, 0x60a03, 0x60b03,
       0x60c03, 0x60d03, 0x60e03, 0x60f03] := by
  decide +kernel

/-- Rule R95: the opcode bytes 0x80 to 0xBF. -/
theorem test_decode_opcodes2 :
    ([
      (0x80, .ct80), (0x81, .ct81), (0x82, .ct82), (0x83, .ct83), (0x84, .ct84), (0x85, .ct85),
      (0x86, .ct86), (0x87, .ct87), (0x88, .ct88), (0x89, .ct89), (0x8A, .ct8A), (0x8B, .ct8B),
      (0x8C, .ct8C), (0x8D, .ct8D), (0x8E, .ct8E), (0x8F, .ct8F), (0x90, .ct90), (0x91, .ct91),
      (0x92, .ct92), (0x93, .ct93), (0x94, .ct94), (0x95, .ct95), (0x96, .ct96), (0x97, .ct97),
      (0x98, .ct98), (0x99, .ct99), (0x9A, .ct9A), (0x9B, .ct9B), (0x9C, .ct9C), (0x9D, .ct9D),
      (0x9E, .ct9E), (0x9F, .ct9F), (0xA0, .ctA0), (0xA1, .ctA1), (0xA2, .ctA2), (0xA3, .ctA3),
      (0xA4, .ctA4), (0xA5, .ctA5), (0xA6, .ctA6), (0xA7, .ctA7), (0xA8, .ctA8), (0xA9, .ctA9),
      (0xAA, .ctAA), (0xAB, .ctAB), (0xAC, .ctAC), (0xAD, .ctAD), (0xAE, .ctAE), (0xAF, .ctAF),
      (0xB0, .ctB0), (0xB1, .ctB1), (0xB2, .ctB2), (0xB3, .ctB3), (0xB4, .ctB4), (0xB5, .ctB5),
      (0xB6, .ctB6), (0xB7, .ctB7), (0xB8, .ctB8), (0xB9, .ctB9), (0xBA, .ctBA), (0xBB, .ctBB),
      (0xBC, .ctBC), (0xBD, .ctBD), (0xBE, .ctBE), (0xBF, .ctBF)] :
      List (Byte × Instr)).all (fun e => decodeOpcode e.1 == e.2) = true := by
  decide +kernel

/-- Rules R94, R96 to R101: the packed entries of the rows 0x80 to 0xBF of the opcode table. -/
theorem test_defaultTable2 :
    (List.range 64).map (fun n => (defaultEntry (128 + n)).pack) =
      [
       0x61003, 0x61103, 0x61203, 0x70003, 0x70403, 0x70503,
       0x70603, 0x70703, 0x70803, 0x70903, 0x70a03, 0x70b03,
       0x70c03, 0x70d03, 0x70e03, 0x70f03, 0x71003, 0x71103,
       0x71203, 0x80003, 0x80403, 0x80503, 0x80603, 0x80703,
       0x80803, 0x80903, 0x80a03, 0x80b03, 0x80c03, 0x80d03,
       0x80e03, 0x80f03, 0x81003, 0x81103, 0x81203, 0x403000101,
       0x503000101, 0x603000101, 0x403000201, 0x503000201, 0x603000201, 0x403000301,
       0x503000301, 0x603000301, 0x403000401, 0x503000401, 0x603000401, 0x10403000101,
       0x10503000101, 0x10603000101, 0x10403000201, 0x10503000201, 0x10603000201, 0x10403000301,
       0x10503000301, 0x10603000301, 0x10403000401, 0x10503000401, 0x10603000401, 0x20403000101,
       0x20503000101, 0x20603000101, 0x20403000201, 0x20503000201] := by
  decide +kernel

/-- Rule R95: the opcode bytes 0xC0 to 0xFF. -/
theorem test_decode_opcodes3 :
    ([
      (0xC0, .ctC0), (0xC1, .ctC1), (0xC2, .ctC2), (0xC3, .ctC3), (0xC4, .ctC4), (0xC5, .ctC5),
      (0xC6, .ctC6), (0xC7, .ctC7), (0xC8, .ctC8), (0xC9, .ctC9), (0xCA, .ctCA), (0xCB, .ctCB),
      (0xCC, .ctCC), (0xCD, .ctCD), (0xCE, .ctCE), (0xCF, .ctCF), (0xD0, .ctD0), (0xD1, .ctD1),
      (0xD2, .ctD2), (0xD3, .ctD3), (0xD4, .ctD4), (0xD5, .ctD5), (0xD6, .ctD6), (0xD7, .ctD7),
      (0xD8, .ctD8), (0xD9, .ctD9), (0xDA, .ctDA), (0xDB, .ctDB), (0xDC, .ctDC), (0xDD, .ctDD),
      (0xDE, .ctDE), (0xDF, .ctDF), (0xE0, .ctE0), (0xE1, .ctE1), (0xE2, .ctE2), (0xE3, .ctE3),
      (0xE4, .ctE4), (0xE5, .ctE5), (0xE6, .ctE6), (0xE7, .ctE7), (0xE8, .ctE8), (0xE9, .ctE9),
      (0xEA, .ctEA), (0xEB, .ctEB), (0xEC, .ctEC), (0xED, .ctED), (0xEE, .ctEE), (0xEF, .ctEF),
      (0xF0, .ctF0), (0xF1, .ctF1), (0xF2, .ctF2), (0xF3, .ctF3), (0xF4, .ctF4), (0xF5, .ctF5),
      (0xF6, .ctF6), (0xF7, .ctF7), (0xF8, .ctF8), (0xF9, .ctF9), (0xFA, .ctFA), (0xFB, .ctFB),
      (0xFC, .ctFC), (0xFD, .ctFD), (0xFE, .ctFE), (0xFF, .ctFF)] :
      List (Byte × Instr)).all (fun e => decodeOpcode e.1 == e.2) = true := by
  decide +kernel

/-- Rules R94, R96 to R101: the packed entries of the rows 0xC0 to 0xFF of the opcode table. -/
theorem test_defaultTable3 :
    (List.range 64).map (fun n => (defaultEntry (192 + n)).pack) =
      [
       0x20603000201, 0x20403000301, 0x20503000301, 0x20603000301, 0x20403000401, 0x20503000401,
       0x20603000401, 0x30403000101, 0x30503000101, 0x30603000101, 0x30403000201, 0x30503000201,
       0x30603000201, 0x30403000301, 0x30503000301, 0x30603000301, 0x30403000401, 0x30503000401,
       0x30603000401, 0x40403000101, 0x40503000101, 0x40603000101, 0x40403000201, 0x40503000201,
       0x40603000201, 0x40403000301, 0x40503000301, 0x40603000301, 0x40403000401, 0x40503000401,
       0x40603000401, 0x50403000101, 0x50503000101, 0x50603000101, 0x50403000201, 0x50503000201,
       0x50603000201, 0x50403000301, 0x50503000301, 0x50603000301, 0x50403000401, 0x50503000401,
       0x50603000401, 0x60403000101, 0x60403000201, 0x60403000301, 0x60403000401, 0x70403000101,
       0x70403000201, 0x70403000301, 0x70403000401, 0x80403000101, 0x80403000201, 0x80403000301,
       0x80403000401, 0x101000403, 0x101010403, 0x101020403, 0x101030403, 0x101040403,
       0x101050403, 0x101060403, 0x101070403, 0x101080403] := by
  decide +kernel
/-! ### States for the witnesses and the single steps -/

/-- The response an instruction answers last. -/
def answer (i : Instr) (s : State) : Option Response :=
  match exec i s with
  | .next t => t.responses.getLast?
  | _ => none

/-- One register after an instruction. -/
def regAfter (i : Instr) (s : State) (n : Nat) : Option Field :=
  match exec i s with
  | .next t => t.readReg n
  | _ => none

/-- One byte after an instruction. -/
def byteAfter (i : Instr) (s : State) (sp : Space) (a : Nat) : Option Byte :=
  match exec i s with
  | .next t => some (t.readByte sp a)
  | _ => none

def ok (r0 r1 r2 : Field := 0) : Option Response := some (Response.okay r0 r1 r2 0)

def misuse : Option Response := some (Response.bare .misuse)

/-- Right after reset. -/
def base : State := State.resetWith small

/-- With a command word presented. -/
def given (s : State) (w : CommandWord) : State := { s with inputs := [.command w] }

/-- In the failed state. -/
def broken : State :=
  { base with failed := true, errCause := some .badOperand, errCmd := 3, errInfo := 0x3F }

/-- SRC holds "abab", TGT holds "abab", the removal table is filled and the two blocks are in the index. -/
def indexed : State :=
  { base with
    rhReady := true, rhRemove := removalTable small
    bhReady := true, srcSize := 4, bhLastBlock := 1, bhLastEnd := 4, bhHead := [(1, 1)], bhNext := [(1, 0)]
    tgtSize := 4
    src := [(0, 97), (1, 98), (2, 97), (3, 98)], tgt := [(0, 97), (1, 98), (2, 97), (3, 98)] }

/-- A session open, its window empty. -/
def ready : State := { indexed with serState := .ready, bhReady := true }

/-- A window with ADD of the byte "a" in it: opcode 2, which a COPY may still be merged into. -/
def adding : State :=
  { ready with
    serState := .inWindow, winTargetLen := 1, lastOpcodeIndex := 0, instLen := 1, dataLen := 1
    inst := [(0, 2)], data := [(0, 97)] }

/-- IN holds `81 00` and then bytes that continue without end. -/
def parsing : State :=
  { base with
    inCursor := 0, inLimit := 8
    inp := [(0, 0x81), (1, 0x00), (2, 0xFF), (3, 0xFF), (4, 0xFF), (5, 0xFF), (6, 0xFF), (7, 0xFF)] }

theorem small_wf : small.wellFormed = true := by decide

/-! ### The invariants are met by states that hold something -/

theorem witness_MemoryInv : indexed.MemoryInv :=
  ⟨by decide, fun sp => by cases sp <;> decide, rfl⟩

theorem witness_IndexInv : indexed.IndexInv where
  block_pos := by decide
  last_ge := by decide
  last_inside := by decide
  end_ge := by decide
  end_le := by decide
  src_le := by decide
  bias_le := by decide
  none_before_init := by decide
  head_newest := fun _ i => by
    have h0 : indexed.bucketAt 0 = 1 := by decide
    have h1 : indexed.bucketAt indexed.params.b = 1 := by decide
    show Sparse.lookup i [(1, 1)] = newestBelow _ 2
    by_cases hi : i = 1
    · subst hi; simp [Sparse.lookup, newestBelow, h1]
    · simp [Sparse.lookup, newestBelow, h0, h1, hi, Ne.symm hi]
  next_newest := fun _ k hk => by
    have hk : k < 2 := by simp only [indexed] at hk; omega
    interval_cases k <;> decide
  next_none := fun _ k hk => by
    have hk : 1 < k := by simp only [indexed] at hk; omega
    simp [indexed, Sparse.lookup, show k ≠ 1 by omega]

theorem witness_IndexInv_adding : adding.IndexInv :=
  let h := witness_IndexInv
  ⟨h.1, h.2, h.3, h.4, h.5, h.6, h.7, h.8, h.9, h.10, h.11⟩

theorem witness_TableInv : indexed.TableInv := fun _ => rfl

theorem witness_CacheInv : indexed.cache.Inv where
  sizes_le := by decide
  slot_lt := by decide
  near_rising := by decide
  near_below := by decide
  near_nonzero := by decide
  near_le := fun _ => Nat.zero_le _
  same_rising := by decide
  same_below := by decide
  same_nonzero := by decide
  same_le := fun _ => Nat.zero_le _

theorem witness_RangeInv : adding.RangeInv where
  tgt_size_le := by decide
  tgt_lo_le := by decide
  bm_src_ge := by decide
  bm_src_le := by decide
  bm_tgt_le := by decide
  bm_size_le := by decide
  in_cursor_le := by decide
  in_limit_le := by decide
  cache_inv := witness_CacheInv
  max_mode_le := by decide
  win_src_pos_le := by decide
  win_len_le := by decide
  checksum_lt := by decide
  last_ge := by decide
  last_lt := by decide
  data_len_le := by decide
  inst_len_le := by decide
  addr_len_le := by decide
  out_len_le := by decide

theorem witness_ErrorInv : broken.ErrorInv ∧ adding.ErrorInv :=
  ⟨⟨by decide, by decide⟩, ⟨by decide, by decide⟩⟩

theorem witness_SerInv : adding.SerInv where
  table_valid := fun _ => by decide +kernel
  max_mode_le := by decide
  idle_empty := by decide
  ready_empty := by decide
  window_nonempty := by decide
  last_opcode := .inr ⟨by decide, by decide, ⟨1, 1, 0⟩, by decide, by decide +kernel⟩
  win_len_le := by decide
  open_valid := by decide

theorem witness_SerInv_ready : ready.SerInv where
  table_valid := fun _ => by decide +kernel
  max_mode_le := by decide
  idle_empty := by decide
  ready_empty := by decide
  window_nonempty := by decide
  last_opcode := .inl rfl
  win_len_le := by decide
  open_valid := by decide

theorem witness_WindowReads : adding.WindowReads [.add 1 [97]] :=
  ⟨1, by decide, by decide, by decide, by decide, by decide, .inr ⟨0, rfl, by decide⟩⟩

/-! ### Hypotheses met, obligation by obligation

Each theorem names its obligation. It shows the hypotheses of every clause met, most at the ends of their
ranges, and what the block answers there (95_test_vectors.md where it has the case). -/

theorem witness_DecodedWordsAreTheirEncodings :
    reads 0x68 = some .outClear ∧ reads 0x69 = none ∧ reads 0x06 = some (.memWrite 0 0 0) ∧ reads 0x07 = none ∧
    reads (commandWord 0x04 8 7 6 5) = some (.wrreg 8 7) ∧ listedLanes 0x04 = 2 ∧ listedLanes 0x55 = 4 ∧
    listedLanes 0x06 = 3 ∧ listedLanes 0x65 = 1 ∧ listedLanes 0x68 = 0 := by decide +kernel

theorem witness_StepRunsDecodedInstruction :
    (given base 0x35).inputs = [.command 0x35] ∧ reads 0x35 = some .bmClear ∧
    { adding with inputs := [.readOpcode] }.reader.instPos < adding.instLen := by decide +kernel

/-- One of each kind of input (OneResponsePerCommand). -/
theorem witness_OneResponsePerCommand :
    goesOn (step (given base 0x0)) ∧ goesOn (step { base with inputs := [.hardwareReset] }) ∧
    goesOn (step { adding with inputs := [.readOpcode] }) := ⟨⟨_, rfl⟩, ⟨_, rfl⟩, ⟨_, rfl⟩⟩

/-- A fault that is recorded, one that is not, and END_OF_DATA (FaultsArePrecise; V3, V46). -/
theorem witness_FaultsArePrecise :
    base.failed = false ∧ answer (.rdreg 0x3F) base = misuse ∧ broken.failed = true ∧
    answer (.rdreg 0x3F) broken = misuse ∧ Status.isFault .misuse = true ∧
    answer .varintParse32 base = some (Response.bare .endOfData) := by decide +kernel

/-- A refused word, a bad word of an allowed number, an allowed word and a word that spells no command
(RefusedAndIllegalWords; V45). -/
theorem witness_RefusedAndIllegalWords :
    (given broken 0x00).failed = true ∧ opBits 0x00 ≠ 0x01 ∧ opBits 0x00 ≠ 0x02 ∧ opBits 0x00 ≠ 0x03 ∧
    opBits 0x00 ≠ 0x05 ∧ opBits 0x103 = 0x03 ∧ rsvBits 0x103 ≠ 0 ∧ rsvBits 0x03 = 0 ∧
    (given base 0x07).failed = false ∧ reads 0x07 = none := by decide +kernel

/-- Kept by a refused word, left by the two resets and by the reset input (OnlyResetsLeaveTheFailedState). -/
theorem witness_OnlyResetsLeaveTheFailedState :
    broken.failed = true ∧ goesOn (step (given broken 0x00)) ∧ goesOn (step (given broken 0x02)) ∧
    goesOn (step { broken with inputs := [.hardwareReset] }) :=
  ⟨rfl, ⟨_, rfl⟩, ⟨_, rfl⟩, ⟨_, rfl⟩⟩

/-- RdregCompletes: the last register of the map, a gap, and the failed state (V46). -/
theorem witness_RdregCompletes :
    answer (.rdreg 0x34) base = ok 8 ∧ answer (.rdreg 0x0F) base = misuse ∧ answer (.rdreg 0x35) base = misuse ∧
    answer (.rdreg 0) broken = ok 9 ∧ answer (.rdreg 0x0A) base = ok (sfield (-1)) := by decide +kernel

/-- WrregCompletes: both ends of each range and one beyond, and the registers around the writable ones. -/
theorem witness_WrregCompletes :
    base.failed = false ∧
    ([0x08, 0x09, 0x0D, 0x0E].all fun n =>
      answer (.wrreg n 0) base == ok && answer (.wrreg n 16) base == ok && answer (.wrreg n 17) base == misuse) =
      true ∧
    ([0x0A, 0x0B, 0x0C].all fun n =>
      answer (.wrreg n 0x7FFFFFFF) base == ok && answer (.wrreg n 0x80000000) base == misuse) = true ∧
    answer (.wrreg 0x0A (sfield (-1))) base = ok ∧ answer (.wrreg 0x0B (sfield (-1))) base = misuse ∧
    answer (.wrreg 0x07 0) base = misuse ∧ answer (.wrreg 0x0F 0) base = misuse ∧
    regAfter (.wrreg 0x0C 5) base 0x0C = some 5 := by decide +kernel

/-- MemReadCompletes: the last byte below a capacity and below a length, one beyond each, no space 7. -/
theorem witness_MemReadCompletes :
    answer (.memRead 0 3) indexed = ok 98 ∧ answer (.memRead 0 16) indexed = misuse ∧
    answer (.memRead 4 0) adding = ok 2 ∧ answer (.memRead 4 1) adding = misuse ∧
    answer (.memRead 7 0) base = misuse := by decide +kernel

/-- MemWriteCompletes: the last address and the largest byte, each operand one beyond, and both sides of the
edge of the indexed blocks. -/
theorem witness_MemWriteCompletes :
    base.failed = false ∧ answer (.memWrite 2 15 255) base = ok ∧ byteAfter (.memWrite 2 15 255) base .inp 15 = some 255 ∧
    answer (.memWrite 3 0 0) base = misuse ∧ answer (.memWrite 2 16 0) base = misuse ∧
    answer (.memWrite 2 15 256) base = misuse ∧ answer (.memWrite 0 3 0) indexed = misuse ∧
    answer (.memWrite 0 4 0) indexed = ok := by decide +kernel

/-- PlainCommandsComplete: no session and an open one, the sum 254 and the sum 255 (V31). -/
theorem witness_PlainCommandsComplete :
    base.failed = false ∧ base.serState = .uninit ∧ answer .nop base = ok ∧
    answer (.acConfig 100 154) base = ok ∧ answer (.acConfig 100 155) base = some (Response.bare .error) ∧
    answer (.acConfig (sfield (-1)) 0) base = some (Response.bare .error) ∧
    ready.failed = false ∧ ready.serState ≠ .uninit ∧ answer .acReset ready = misuse ∧
    answer .ctDefault ready = misuse := by decide +kernel

/-- VarintLengthAndEncodeComplete: the ends of the two ranges, a negative value, and OUT with one byte too
little room (V1, V10). -/
theorem witness_VarintLengthAndEncodeComplete :
    base.failed = false ∧ answer (.varintLen32 0x7FFFFFFF) base = ok 5 ∧ answer (.varintLen32 0x80000000) base = misuse ∧
    answer (.varintLen64 0x7FFFFFFFFFFFFFFF) base = ok 9 ∧ answer (.varintLen64 (sfield (-1))) base = misuse ∧
    answer (.varintEnc32 300) { base with outLen := 14 } = ok 2 ∧
    byteAfter (.varintEnc32 300) { base with outLen := 14 } .out 14 = some 0x82 ∧
    byteAfter (.varintEnc32 300) { base with outLen := 14 } .out 15 = some 0x2C ∧
    answer (.varintEnc32 300) { base with outLen := 15 } = some (Response.bare .capacity) ∧
    answer (.varintEnc64 0) base = ok 1 := by decide +kernel

/-- VarintRoundTrip: 128 in two bytes, whole and cut; a digit too many; bytes that go on (V2, V3, V5, V6). -/
theorem witness_VarintRoundTrip :
    varintLength 128 = 2 ∧ varintEncode 128 = [parsing.readByte .inp 0, parsing.readByte .inp 1] ∧
    varintParse .w32 (parsing.readByte .inp) 0 2 = .ok 128 2 ∧
    varintParse .w32 (parsing.readByte .inp) 0 1 = .endOfData ∧
    varintParse .w32 (parsing.readByte .inp) 2 8 = .error ∧
    varintParse .w32 (parsing.readByte .inp) 2 2 = .endOfData ∧
    varintEncode max32 = [0x87, 0xFF, 0xFF, 0xFF, 0x7F] := by decide +kernel

/-- ParseCommandsComplete: a value, the limit, a malformed varint; a byte below the limit and at it. -/
theorem witness_ParseCommandsComplete :
    parsing.failed = false ∧ answer .varintParse32 parsing = ok 128 2 ∧ answer .varintParse64 parsing = ok 128 2 ∧
    answer .varintParse64 { parsing with inLimit := 1 } = some (Response.bare .endOfData) ∧
    answer .varintParse32 { parsing with inCursor := 2 } = some (Response.bare .error) ∧
    answer .parseByte { parsing with inCursor := 7 } = ok 0xFF 8 ∧
    answer .parseByte { parsing with inCursor := 8 } = some (Response.bare .endOfData) := by decide +kernel

/-- HashAndRemovalTable: RH_INIT at reset; V15's removal value of the byte 200. -/
theorem witness_HashAndRemovalTable :
    base.failed = false ∧ answer .rhInit base = ok ∧ (removalTable small).getD 200 0 = 168 := by decide +kernel

/-- HashCommandsComplete: before and after RH_INIT, the last window and one beyond, each operand one beyond
its range (V15, V17, V18). -/
theorem witness_HashCommandsComplete :
    base.failed = false ∧ base.rhReady = false ∧ answer (.rhHash 0 0) base = misuse ∧
    indexed.failed = false ∧ indexed.rhReady = true ∧ answer (.rhHash 1 2) indexed = ok 133 ∧
    answer (.rhHash 1 3) indexed = misuse ∧ answer (.rhHash 2 0) indexed = misuse ∧
    answer (.rhUpdate 188 200 7) indexed = ok 51 ∧ answer (.rhUpdate 256 0 0) indexed = misuse ∧
    answer (.rhUpdate 255 256 0) indexed = misuse ∧ answer (.rhUpdate 255 255 256) indexed = misuse ∧
    answer (.rhUpdate 255 255 255) indexed = ok 5 := by decide +kernel

/-- RollingLaw: V15's window, and the last two windows of SRC and of TGT. -/
theorem witness_RollingLaw :
    ([(100 : Byte)].length + 1 = small.b) ∧ indexed.failed = false ∧ indexed.rhReady = true ∧ indexed.TableInv ∧
    1 ≤ indexed.params.b ∧ indexed.params.w ≤ 63 ∧ 1 + 1 ≤ max32 ∧ 1 + 1 + indexed.params.b ≤ indexed.srcSize ∧
    1 + 1 + indexed.params.b ≤ indexed.tgtSize :=
  ⟨rfl, rfl, rfl, witness_TableInv, by decide, by decide, by decide, by decide, by decide⟩

/-- BhInitCompletes: not ready; an empty and a populated index over the whole of SRC; each operand one beyond
its range (V20, V26). -/
theorem witness_BhInitCompletes :
    base.failed = false ∧ 1 ≤ base.params.b ∧ base.rhReady = false ∧ answer (.bhInit 0 0 0) base = misuse ∧
    indexed.rhReady = true ∧ answer (.bhInit 4 0 1) indexed = ok 2 ∧ answer (.bhInit 16 0 0) indexed = ok ∧
    answer (.bhInit 17 0 0) indexed = misuse ∧ answer (.bhInit 4 0x7FFFFFFB 0) indexed = ok ∧
    answer (.bhInit 4 0x7FFFFFFC 0) indexed = misuse ∧ answer (.bhInit 4 0 2) indexed = misuse := by decide +kernel

/-- An index over "abab" with nothing added yet. -/
def unpopulated : State := { indexed with bhLastBlock := -1, bhLastEnd := -1, bhHead := [], bhNext := [] }

/-- BhAddThroughCompletes: not ready; the last end itself and one above it; SRC_SIZE and one above it (V24). -/
theorem witness_BhAddThroughCompletes :
    base.bhReady = false ∧ answer (.bhAddThrough 0) base = misuse ∧ unpopulated.failed = false ∧
    unpopulated.bhReady = true ∧ answer (.bhAddThrough (sfield (-1))) unpopulated = misuse ∧
    answer (.bhAddThrough 0) unpopulated = ok ∧ answer (.bhAddThrough 1) unpopulated = ok 1 ∧
    answer (.bhAddThrough 4) unpopulated = ok 2 ∧ answer (.bhAddThrough 5) unpopulated = misuse := by
  decide +kernel

/-- WalkFindsNewestEqualBlock: the probe's hash at the last probe of TGT, and the blocks 1 and 0 (V21). -/
theorem witness_WalkFindsNewestEqualBlock :
    indexed.IndexInv ∧ indexed.failed = false ∧ indexed.bhReady = true ∧ 2 ≤ max32 ∧ 2 + 2 ≤ indexed.tgtSize ∧
    indexed.hashAt .tgt 2 = 133 ∧ indexed.confirmed 2 1 = true ∧
    answer (.bhFirstMatch 133 2) indexed = ok 1 ∧ answer (.bhNextMatch 1 2) indexed = ok 0 ∧
    answer (.bhNextMatch 0 2) indexed = ok (sfield (-1)) :=
  ⟨witness_IndexInv, by decide +kernel⟩

/-- SearchFaults: not ready; a hash, a block and a probe one beyond their range, and a probe below TGT_LO. -/
theorem witness_SearchFaults :
    base.failed = false ∧ base.bhReady = false ∧ answer (.bhFirstMatch 0 0) base = misuse ∧
    indexed.bhReady = true ∧ answer (.bhFirstMatch 256 0) indexed = misuse ∧
    answer (.bhNextMatch 2 0) indexed = misuse ∧ answer (.bhNextMatch (sfield (-1)) 0) indexed = misuse ∧
    answer (.bhFirstMatch 255 3) indexed = misuse ∧ answer (.bhNextMatch 1 3) indexed = misuse ∧
    answer (.bhFindBest 255 3) indexed = misuse ∧
    answer (.bhFindBest 133 1) { indexed with tgtLo := 2 } = misuse := by decide +kernel

/-- FindBestReportsTrueMatches and FindBestKeepsTheLargest: the probe at TGT_LO itself; block 0 extends to the
whole of TGT and block 1 does not, so the larger one replaces the newer one (V22). -/
theorem witness_FindBest :
    indexed.IndexInv ∧ indexed.failed = false ∧ indexed.bhReady = true ∧ 133 < 2 ^ indexed.params.w ∧
    indexed.params.w ≤ 63 ∧ indexed.tgtLo ≤ 0 ∧ 0 + indexed.params.b ≤ indexed.tgtSize ∧
    indexed.hashAt .tgt 0 = 133 ∧ answer (.bhFindBest 133 0) indexed = ok 0 0 4 ∧
    answer (.bhFindBest 133 0) { indexed with bmSize := 4, bmSrc := 9, bmTgt := 1 } = ok 9 1 4 :=
  ⟨witness_IndexInv, by decide +kernel⟩

/-- ExtensionsAreLargest: a match cut short by the edge on the left and by a byte on the right. -/
theorem witness_ExtensionsAreLargest :
    indexed.extendLeft 2 2 = 2 ∧ indexed.extendRight 0 0 = 2 ∧
    { indexed with tgt := [(0, 97), (1, 98), (2, 97), (3, 99)] }.extendRight 0 0 = 1 := by decide +kernel

/-- CacheUpdate: a cache with both parts, and one with neither. -/
theorem witness_CacheUpdate :
    indexed.cache.Inv ∧ 0 < indexed.cache.nearSize ∧ 0 < indexed.cache.sameSize ∧
    (AddrCache.cleared 0 0).nearSize = 0 ∧ (indexed.cache.update 1000).near = [(0, 1000)] ∧
    (indexed.cache.update 1000).same = [(232, 1000)] :=
  ⟨witness_CacheInv, by decide +kernel⟩

/-- ChooseIsShortest: V27 steps 1 and 2, and V29. -/
theorem witness_ChooseIsShortest :
    indexed.cache.Inv ∧ 167 < 255 ∧ 255 ≤ max32 ∧
    indexed.cache.choose 0 166 = { len := 1, mode := 0, value := 0 } ∧
    indexed.cache.choose 167 255 = { len := 1, mode := 1, value := 88 } ∧
    varintLength (300 - 200) < varintLength 200 ∧
    (AddrCache.cleared 0 0).choose 200 300 = { len := 1, mode := 1, value := 100 } ∧
    (AddrCache.cleared 0 0).choose 9 10 = { len := 1, mode := 0, value := 9 } :=
  ⟨witness_CacheInv, by decide +kernel⟩

/-- AddressCommandsComplete: an open session; the address just below the here address, and at it; a decoded
address, END_OF_DATA, and the three kinds of information of a fault (V27, V30). -/
theorem witness_AddressCommandsComplete :
    ready.failed = false ∧ ready.serState ≠ .uninit ∧ answer (.acEncode 0 1) ready = misuse ∧
    base.failed = false ∧ base.serState = .uninit ∧ answer (.acEncode 167 255) base = ok 1 88 ∧
    answer (.acEncode 9 10) base = ok 0 9 ∧ answer (.acEncode 10 10) base = misuse ∧
    answer (.acDecode 200 0) parsing = ok 128 2 ∧ answer (.acDecode 128 0) parsing = some (Response.bare .error) ∧
    answer (.acDecode 200 0) { parsing with inLimit := 1 } = some (Response.bare .endOfData) ∧
    regAfter (.acDecode 0 0) parsing 3 = some 0 ∧ regAfter (.acDecode 200 9) parsing 3 = some 9 ∧
    regAfter (.acDecode 128 0) { parsing with inCursor := 0 } 3 = some 0 := by decide +kernel

/-- DecodeChecksInOrder: here 0 and 2^31, mode 9 of a cache whose last is 8, a SAME byte at the limit and
below it, and a varint. -/
theorem witness_DecodeChecksInOrder :
    base.cache.decode (parsing.readByte .inp) 0 8 0 0 = .error .addrHereNonpositive ∧
    base.cache.decode (parsing.readByte .inp) 0 8 2147483648 0 = .error .addrHereNonpositive ∧
    base.cache.decode (parsing.readByte .inp) 0 8 2147483647 9 = .error .addrBadMode ∧
    base.cache.decode (parsing.readByte .inp) 8 8 5 6 = .endOfData ∧
    base.cache.decode (parsing.readByte .inp) 7 8 5 8 = .ok 0 8 ∧
    base.cache.decode (parsing.readByte .inp) 0 8 129 0 = .ok 128 2 ∧
    base.cache.decode (parsing.readByte .inp) 0 8 128 0 = .error .addrOutOfRange ∧
    { base.cache with near := [(0, 0x7FFFFFFF)] }.decode (parsing.readByte .inp) 0 8 5 2 =
      .error .addrNearOverflow ∧
    base.cache.decode (parsing.readByte .inp) 2 8 5 1 = .error .varintOverflow := by decide +kernel

/-- AddressRoundTrip: V27's first four addresses, over the bytes of their four fields. -/
theorem witness_AddressRoundTrip :
    base.cache.Inv ∧ base.cache.encodeAll [(0, 166), (167, 255), (212, 301), (167, 400)] =
      ([0, 1, 1, 3], [0x00, 0x58, 0x59, 0x00],
        { nearSize := 4, sameSize := 3, nextSlot := 0, near := [(1, 167), (2, 212), (3, 167)],
          same := [(167, 167), (212, 212)] }) :=
  ⟨witness_CacheInv, by decide +kernel⟩

/-- CodeTableReadsBackWhatWasWritten: the last entry and the largest packed entry, each one beyond (V35). -/
theorem witness_CodeTableReadsBackWhatWasWritten :
    base.failed = false ∧ answer (.ctRead 255) base = ok 0x101080403 ∧ answer (.ctRead 256) base = misuse ∧
    ready.serState ≠ .uninit ∧ answer (.ctWrite 0 2) ready = misuse ∧ base.serState = .uninit ∧
    answer (.ctWrite 255 0xFFFFFFFFFFFF) base = ok ∧ answer (.ctWrite 255 0x1000000000000) base = misuse ∧
    answer (.ctWrite 256 0) base = misuse ∧ Sparse.rising base.ct = true := by decide +kernel

/-- CtValidateCompletes: V35: valid, an illegal half, a missing combination, and the operand 256; and an ADD of
mode 1 (93_implementation_defined.md U31, log 15). -/
theorem witness_CtValidateCompletes :
    base.failed = false ∧ base.serState = .uninit ∧ answer (.ctValidate 8) base = ok ∧
    regAfter (.ctValidate 7) base 3 = some 0x93 ∧ regAfter (.ctValidate 9) base 3 = some 0x409 ∧
    answer (.ctValidate 256) base = misuse ∧
    regAfter (.ctValidate 8) { base with ct := [(9, ⟨1, 8, 1, 0, 0, 0⟩)] } 3 = some 9 ∧ ready.serState ≠ .uninit ∧ answer (.ctValidate 8) ready = misuse := by
  decide +kernel

/-- InstructionMapFindsTheLowest: V34 and V37; each operand one beyond its range. -/
theorem witness_InstructionMapFindsTheLowest :
    base.failed = false ∧ answer (.imFirst 3 4 0) base = ok 20 ∧ answer (.imFirst 1 18 0) base = ok 256 ∧
    answer (.imSecond 2 3 4 0) base = ok 163 ∧ answer (.imSecond 20 1 1 0) base = ok 247 ∧
    answer (.imSecond 255 255 255 255) base = ok 256 ∧ answer (.imFirst 256 0 0) base = misuse ∧
    answer (.imFirst 255 256 0) base = misuse ∧ answer (.imFirst 255 255 256) base = misuse ∧
    answer (.imSecond 255 255 255 256) base = misuse := by decide +kernel

/-- LookupLaws: in the default table. -/
theorem witness_LookupLaws :
    (defaultEntry 20).single = some ⟨3, 4, 0⟩ ∧ lookupSecond defaultEntry 2 ⟨3, 4, 0⟩ < 256 ∧ 8 ≤ 255 ∧
    tableValid defaultEntry 8 = true := by decide +kernel

/-- SerStartCompletes: open already; the flags 3 and 4; a table not valid; a mode beyond CT_MAXMODE; room for
five bytes and for four (V35, V41, V47). -/
theorem witness_SerStartCompletes :
    ready.failed = false ∧ ready.serState ≠ .uninit ∧ answer (.serStart 0) ready = misuse ∧
    base.serState = .uninit ∧ answer (.serStart 3) base = ok 5 ∧ answer (.serStart 4) base = misuse ∧
    byteAfter (.serStart 3) base .out 3 = some 0x53 ∧ byteAfter (.serStart 0) base .out 3 = some 0x00 ∧
    regAfter (.serStart 0) { base with ctValid := false } 3 = some 0x100 ∧
    regAfter (.serStart 0) { base with ctMaxMode := 7 } 3 = some 0x200 ∧
    answer (.serStart 0) { base with outLen := 11 } = ok 5 ∧
    answer (.serStart 0) { base with outLen := 12 } = some (Response.bare .capacity) := by decide +kernel

/-- SerSettingsComplete: each command in the states its rule names, each operand one beyond (V39, V44). -/
theorem witness_SerSettingsComplete :
    base.failed = false ∧ base.serState = .uninit ∧ ready.serState = .ready ∧ adding.serState = .inWindow ∧
    answer (.serWindow 1 0 0) base = misuse ∧ answer (.serWindow 2 0x7FFFFFFF 0x7FFFFFFF) ready = ok ∧
    answer (.serWindow 1 5 5) ready = ok ∧ regAfter (.serWindow 0 5 5) ready 0x1A = some 0 ∧
    answer (.serWindow 3 0 0) ready = misuse ∧ answer (.serWindow 0 0x80000000 0) ready = misuse ∧
    answer (.serWindow 0 0 0x80000000) ready = misuse ∧ answer (.serChecksum 1) base = misuse ∧
    regAfter (.serChecksum 1) ready 3 = some 0x300 ∧
    answer (.serChecksum 0xFFFFFFFF) { ready with checksumOn := true } = ok ∧
    answer (.serChecksum 0x100000000) { ready with checksumOn := true } = misuse ∧
    answer .serFinish base = misuse ∧ answer .serFinish ready = ok ∧ regAfter .serFinish adding 1 = some 21 := by
  decide +kernel

/-- PlanTriesInOrder: V37 for the first and the third attempt, V36's table entry for the second, a size of 300
for the last. -/
theorem witness_PlanTriesInOrder :
    adding.plan instCopy 4 0 = some ⟨some 163, [], -1⟩ ∧
    { adding with ct := [(4, ⟨1, 1, 0, 3, 0, 0⟩)] }.plan instCopy 300 0 = some ⟨some 4, [0x82, 0x2C], -1⟩ ∧
    ready.plan instAdd 1 0 = some ⟨none, [2], 0⟩ ∧
    ready.plan instRun 300 0 = some ⟨none, [0x00, 0x82, 0x2C], 0⟩ := by decide +kernel

/-- The window of `adding` with one byte left in INST and ADDR and two in DATA (their capacities are 16). -/
def nearlyFull : State := { adding with instLen := 15, dataLen := 14, addrLen := 15 }

theorem witness_SerInv_nearlyFull : nearlyFull.SerInv where
  table_valid := fun _ => by decide +kernel
  max_mode_le := by decide
  idle_empty := by decide
  ready_empty := by decide
  window_nonempty := by decide
  last_opcode := .inr ⟨by decide, by decide, ⟨1, 1, 0⟩, by decide, by decide +kernel⟩
  win_len_le := by decide
  open_valid := by decide

/-- SerInstructionsComplete: an ADD that fills INST and DATA to the last byte, a COPY that merges and fills
ADDR; one byte more in DATA, in INST and in ADDR, and the lower space where two overflow (V47). -/
theorem witness_SerInstructionsComplete :
    nearlyFull.SerInv ∧ nearlyFull.cache.Inv ∧ nearlyFull.failed = false ∧ nearlyFull.serState ≠ .uninit ∧
    nearlyFull.fits ⟨none, [3], 15⟩ .data 2 ∧ nearlyFull.fits ⟨some 163, [], -1⟩ .addr 1 ∧
    nearlyFull.lacks ⟨none, [4], 15⟩ .data 3 3 ∧ nearlyFull.lacks ⟨none, [0, 0x82, 0x2C], 15⟩ .data 1 4 ∧
    { nearlyFull with addrLen := 16 }.lacks ⟨some 163, [], -1⟩ .addr 1 5 ∧
    (nearlyFull.plan instAdd 2 0 = some ⟨none, [3], 15⟩ ∧ nearlyFull.plan instCopy 4 0 = some ⟨some 163, [], -1⟩ ∧
      answer (.serAdd 2 2) nearlyFull = ok ∧ answer (.serCopy 0 4) nearlyFull = ok ∧
      regAfter (.serAdd 0 3) nearlyFull 3 = some 3 ∧ regAfter (.serRun 300 0x5A) nearlyFull 3 = some 4 ∧
      regAfter (.serCopy 0 4) { nearlyFull with addrLen := 16 } 3 = some 5 ∧
      regAfter (.serCopy 0 300) { nearlyFull with addrLen := 16 } 3 = some 4 ∧
      regAfter (.serAdd 2 2) { nearlyFull with interleaved := true } 3 = some 4) :=
  ⟨witness_SerInv_nearlyFull, witness_CacheInv, rfl, by decide, ⟨by decide, by decide⟩, ⟨by decide, by decide⟩,
    .inl ⟨rfl, by decide, rfl⟩, .inr (.inl ⟨rfl, by decide, by decide, rfl⟩),
    .inr (.inr (.inr ⟨rfl, by decide, by decide, rfl⟩)), by decide +kernel⟩

/-- WindowDecodesToWhatWasGiven: an ADD, a RUN and a COPY in a window that reads as the ADD given before; a
SER_START, a SER_OUTPUT, the two resets; and a step that leaves the stream open. -/
theorem witness_WindowDecodesToWhatWasGiven :
    adding.SerInv ∧ adding.cache.Inv ∧ adding.WindowReads [.add 1 [97]] ∧ adding.failed = false ∧
    adding.serState ≠ .uninit ∧
    (∃ t, exec (.serAdd 2 2) adding = .next t ∧ t.failed = false) ∧
    (∃ t, exec (.serRun 300 0x5A) adding = .next t ∧ t.failed = false) ∧
    (∃ t, exec (.serCopy 0 4) adding = .next t ∧ t.failed = false) ∧
    (∃ t, exec (.serStart 3) base = .next t ∧ t.failed = false) ∧
    (∃ t, exec .serOutput { adding with outLen := 7 } = .next t ∧ t.failed = false) ∧
    goesOn (exec .sessionReset adding) ∧ goesOn (exec .reset adding) ∧
    (∃ t, step (given adding 0x35) = .next t ∧ t.serState ≠ .uninit) ∧ opBits 0x35 = 0x35 :=
  ⟨witness_SerInv, witness_CacheInv, witness_WindowReads, rfl, by decide, ⟨_, rfl, by decide +kernel⟩,
    ⟨_, rfl, by decide +kernel⟩, ⟨_, rfl, by decide +kernel⟩, ⟨_, rfl, by decide +kernel⟩,
    ⟨_, rfl, by decide +kernel⟩, ⟨_, rfl⟩, ⟨_, rfl⟩, ⟨_, rfl, by decide +kernel⟩, by decide⟩

/-- SerInstructionFaults: no session; sizes of -1, 0 and one too many; the other operand one beyond (V44). -/
theorem witness_SerInstructionFaults :
    base.serState = .uninit ∧ answer (.serAdd 0 1) base = misuse ∧ ready.failed = false ∧
    ready.serState ≠ .uninit ∧ regAfter (.serAdd 0 (sfield (-1))) ready 1 = some 18 ∧
    answer (.serRun 0 0) ready = misuse ∧ answer (.serAdd 0 0x80000000) ready = misuse ∧
    answer (.serAdd 3 2) ready = misuse ∧ answer (.serAdd 2 2) ready = ok ∧
    answer (.serRun 0x7FFFFFFF 256) ready = misuse ∧ answer (.serRun 0x7FFFFFFF 255) ready = ok ∧
    answer (.serCopy 1 4) adding = misuse ∧ answer (.serCopy (sfield (-1)) 4) adding = misuse := by
  decide +kernel

/-- SerOutputCompletes: no session; an empty window; a window of ten bytes with room for ten and for nine
(V39). -/
theorem witness_SerOutputCompletes :
    base.failed = false ∧ base.serState = .uninit ∧ answer .serOutput base = misuse ∧
    ready.serState ≠ .uninit ∧ ready.winTargetLen = 0 ∧ answer .serOutput ready = ok ∧
    adding.winTargetLen ≠ 0 ∧ answer .serOutput { adding with outLen := 7 } = ok 9 ∧
    answer .serOutput { adding with outLen := 8 } = some (Response.bare .capacity) := by decide +kernel

/-- SerializerTransitions: each row of its table, and a command in a state its row does not list. -/
theorem witness_SerializerTransitions :
    (given base 0x60).failed = false ∧ goesOn (step (given base 0x60)) ∧ goesOn (step (given ready 0x67)) ∧
    goesOn (step (given adding 0x66)) ∧ goesOn (step (given adding 0x67)) ∧ goesOn (step (given base 0x67)) ∧
    rsvBits 0x67 = 0 :=
  ⟨rfl, ⟨_, rfl⟩, ⟨_, rfl⟩, ⟨_, rfl⟩, ⟨_, rfl⟩, ⟨_, rfl⟩, by decide⟩

/-- The reader's window: RUN, ADD with a size, COPY and the compound bytes, in both formats. -/
def window (interleaved : Bool) (inst data addr : List Byte) : State :=
  ((({ base with winSrcSize := 200 }.append .inst inst).append .data data).append .addr addr).setFormatFlags
    interleaved.toNat

/-- The delta instructions an opcode byte is read as. -/
def deltasOf (b : Byte) (s : State) : List Delta :=
  match exec (decodeOpcode b) s with
  | .next t => t.reader.deltas
  | _ => []

/-- RunAndAddOpcodes (30_encoding.md rules R95, R96, R97). -/
theorem witness_RunAndAddOpcodes :
    (∀ op, (window false [] [] []).ctEntry op = defaultEntry op) ∧
    varintParse .w32 ((window false [0, 2] [0x6C] []).readByte .inst) 1 2 = .ok 2 2 ∧
    deltasOf 0 (window false [0, 2] [0x6C] []) = [.run 2 0x6C] ∧
    deltasOf 1 (window true [1, 2, 5, 6] [] []) = [.add 2 [5, 6]] ∧
    deltasOf 2 (window false [2] [7] []) = [.add 1 [7]] :=
  ⟨fun _ => rfl, by decide +kernel⟩

/-- CopyOpcodes: a size that follows and one in the byte, SELF and HERE (30_encoding.md rule R98). -/
theorem witness_CopyOpcodes :
    (∀ op, (window false [] [] []).ctEntry op = defaultEntry op) ∧
    deltasOf 0x13 (window false [0x13, 0x1C] [] [0]) = [.copy 28 0 0] ∧
    deltasOf 0x26 (window true [0x26, 0x58] [] []) = [.copy 6 1 112] ∧
    deltasOf 0x26 (window true [0x26] [] []) = [] :=
  ⟨fun _ => rfl, by decide +kernel⟩

/-- CompoundOpcodes: V38's 0xB3, and the bytes 0xEB and 0xF7 (30_encoding.md rules R99, R100, R101). -/
theorem witness_CompoundOpcodes :
    (∀ op, (window false [] [] []).ctEntry op = defaultEntry op) ∧ 0xB3 = 163 + 12 * 1 + 3 * (2 - 1) + (5 - 4) ∧
    deltasOf 0xB3 (window true [0xB3, 0x68, 0x72, 0x59] [] []) = [.add 2 [0x68, 0x72], .copy 5 1 113] ∧
    deltasOf 0xB3 (window false [0xB3] [0x68, 0x72] [0x59]) = [.add 2 [0x68, 0x72], .copy 5 1 113] ∧
    deltasOf 0xEB (window false [0xEB] [9] [0]) = [.add 1 [9], .copy 4 6 0] ∧
    deltasOf 0xF7 (window true [0xF7, 3, 8] [] []) = [.copy 4 0 3, .add 1 [8]] :=
  ⟨fun _ => rfl, by decide +kernel⟩

/-- NonStoringInstructionsKeepMemory: a command that stores nothing, and a storing one that faults. -/
theorem witness_NonStoringInstructionsKeepMemory :
    storesBytes .bmClear = false ∧ goesOn (exec .bmClear indexed) ∧ Instr.serOutput ≠ .reset ∧
    regAfter .serOutput base 0 = some 9 :=
  ⟨rfl, ⟨_, rfl⟩, by decide, by decide +kernel⟩

/-- DictionaryChangesOnlyAtItsCommands and the invariants of a step: a step that goes on. -/
theorem witness_steps :
    goesOn (step (given indexed 0x20)) ∧ goesOn (step (given { adding with bhReady := true } 0x66)) ∧
    goesOn (step base) := ⟨⟨_, rfl⟩, ⟨_, rfl⟩, ⟨_, rfl⟩⟩

/-- StepKeepsRegisters and the statements of one invariant: all of them hold together in one state. -/
theorem witness_invariants :
    adding.IndexInv ∧ adding.SerInv ∧ adding.RangeInv ∧ adding.TableInv ∧ adding.ErrorInv ∧ adding.MemoryInv :=
  ⟨witness_IndexInv_adding, witness_SerInv, witness_RangeInv, fun _ => rfl, witness_ErrorInv.2,
    ⟨by decide, fun sp => by cases sp <;> decide, rfl⟩⟩

/-- ResetMeetsTheInvariants: parameters that rule R5 allows. -/
theorem witness_ResetMeetsTheInvariants : small.wellFormed = true := small_wf

/-! ### The host's words -/

/-- From reset the next step runs the instruction of a row's bits: MEM_WRITE's row and the opcode byte 0x14. -/
theorem test_withFetchWord :
    decodeTableWord 64 0x35 = some .bmClear ∧ decodeTableWord 8 0x14 = some .ct14 ∧
    (State.reset.withFetchWord 64 0x35).inputs = [.command 0x35] ∧
    (State.reset.withFetchWord 8 0x14).readByte .inst 0 = 0x14 ∧
    (State.reset.withFetchWord 8 0x14).instLen = 3 := by decide +kernel

end Sys2Proof.Tests
end

/-! ## Scope: one step, one response, and who owns the dictionary domain (00_scope.md)

What a step does with each input, said once; from it, that a step runs the decoded instruction (O4), answers
one response per command (O5), and changes the dictionary domain only at the commands that own it (O54). -/

namespace Sys2Proof.Machine

/-! ### What a step does with each input -/

theorem step_of_command {s : State} {w : CommandWord} {rest : List Input}
    (hs : s.inputs = .command w :: rest) : step s = stepCommand w { s with inputs := rest } := by
  unfold step
  rw [hs]

theorem step_of_readOpcode {s : State} {rest : List Input} (hs : s.inputs = .readOpcode :: rest) :
    step s = stepReader { s with inputs := rest } := by
  unfold step
  rw [hs]

theorem stepCommand_of_decoded {w : CommandWord} {i : Instr} (hd : decodeCommand w = .ok i) (s : State) :
    stepCommand w s = exec i s := by
  unfold stepCommand
  rw [hd]

theorem stepReader_of_lt {s : State} (h : s.reader.instPos < s.instLen) :
    stepReader s = exec (decodeOpcode (s.readByte .inst s.reader.instPos)) s :=
  if_pos h

/-- A word that spells no command ends as a command can: refused, or with a fault (30_encoding.md rule
R84). -/
theorem rejectWord_ending (w : CommandWord) (s : State) : Ending (opBits w) s (rejectWord w s) := by
  unfold rejectWord
  split
  · rename_i hg
    obtain ⟨hf, ha⟩ := Bool.and_eq_true_iff.mp hg
    exact .refused hf (by simpa using ha)
  · rename_i hg
    exact .fault (by simpa [or_iff_not_imp_left] using hg) _ _

/-- Every next state a step can answer, by the input it takes: a command word ends in one of its endings,
whether it decodes or not. -/
theorem step_next {s t : State} (h : step s = .next t) :
    (s.inputs = [] ∧ t = s) ∨
    (∃ rest, s.inputs = .hardwareReset :: rest ∧ t = { s with inputs := rest }.fullReset) ∨
    (∃ rest r, s.inputs = .readOpcode :: rest ∧ t = { s with inputs := rest, reader := r }) ∨
    (∃ w rest, s.inputs = .command w :: rest ∧ Ending (opBits w) { s with inputs := rest } t) := by
  obtain idle | reset | turn | ⟨w, rest, -, hs, -, he⟩ | ⟨w, rest, -, hs, -, rfl⟩ := step_cases h
  · exact .inl idle
  · exact .inr (.inl reset)
  · exact .inr (.inr (.inl turn))
  · exact .inr (.inr (.inr ⟨w, rest, hs, he⟩))
  · exact .inr (.inr (.inr ⟨w, rest, hs, rejectWord_ending w _⟩))

/-- Settles O4, from what a step does with each of the two inputs. -/
theorem stepRunsDecodedInstruction : Obligations.StepRunsDecodedInstruction := by
  refine ⟨fun s w rest i hs hd => ?_, fun s rest hs hlt => ?_⟩
  · rw [step_of_command hs, stepCommand_of_decoded hd]
  · rw [step_of_readOpcode hs]
    exact stepReader_of_lt (s := { s with inputs := rest }) hlt

/-! ### The ports -/

/-- No command's update touches the ports (logs 5, 6, 7). -/
theorem Effect.ports_eq {op : Byte} {s u : State} (h : Effect op s u) :
    u.inputs = s.inputs ∧ u.responses = s.responses := by
  cases h <;> exact ⟨by simp, by simp⟩

/-- The result fields are zero unless the status is OK (30_encoding.md rule R82). -/
def Response.ZeroUnlessOk (r : Response) : Prop :=
  r.status ≠ .ok → r.r0 = 0 ∧ r.r1 = 0 ∧ r.r2 = 0 ∧ r.r3 = 0

theorem Response.zeroUnlessOk_bare (st : Status) : (Response.bare st).ZeroUnlessOk :=
  fun _ => ⟨rfl, rfl, rfl, rfl⟩

theorem Response.zeroUnlessOk_okay (r0 r1 r2 r3 : Field) : (Response.okay r0 r1 r2 r3).ZeroUnlessOk :=
  fun h => absurd rfl h

/-- Every ending leaves the command port and puts one response on the response port (00_scope.md rules R7,
R12). -/
theorem Ending.one_response {op : Byte} {s t : State} (h : Ending op s t) :
    t.inputs = s.inputs ∧ ∃ r : Response, t.responses = s.responses ++ [r] ∧ r.ZeroUnlessOk := by
  cases h with
  | refused => exact ⟨rfl, _, rfl, Response.zeroUnlessOk_bare _⟩
  | completed _ u r0 r1 r2 r3 effect =>
    obtain ⟨inputs, responses⟩ := effect.ports_eq
    exact ⟨inputs, _, congrArg (· ++ [Response.okay r0 r1 r2 r3]) responses,
      Response.zeroUnlessOk_okay r0 r1 r2 r3⟩
  | endOfData => exact ⟨rfl, _, rfl, Response.zeroUnlessOk_bare _⟩
  | fault _ c info =>
    exact ⟨State.takeFault_inputs s op c info, _, State.takeFault_responses s op c info,
      Response.zeroUnlessOk_bare _⟩

/-- Settles O5, from the one response of every ending. -/
theorem oneResponsePerCommand : Obligations.OneResponsePerCommand := by
  intro s t x rest hx h
  obtain ⟨hs, -⟩ | ⟨rest', hs, rfl⟩ | ⟨rest', r, hs, rfl⟩ | ⟨w, rest', hs, he⟩ := step_next h
  · exact absurd (hx.symm.trans hs) (List.cons_ne_nil x rest)
  all_goals obtain ⟨rfl, rfl⟩ := List.cons.inj (hx.symm.trans hs)
  · exact ⟨rfl, rfl⟩
  · exact ⟨rfl, rfl⟩
  · exact he.one_response

/-! ### The dictionary domain -/

/-- An append to another space leaves SRC. -/
theorem State.append_src (s : State) {sp : Space} (bs : List Byte) (h : .src ≠ sp) :
    (s.append sp bs).src = s.src :=
  State.mem_append_of_ne s (sp' := .src) bs h

/-- The sink of an instruction is never SRC (45_serializer.md rule R214). -/
theorem State.src_ne_sink (s : State) {sp : Space} (h : .src ≠ sp) : .src ≠ s.sink sp := by
  unfold State.sink
  split
  · decide
  · exact h

theorem State.accumulate_src (s : State) (p : Plan) {sp : Space} (bs : List Byte) (size : Nat)
    (h : .src ≠ sp) : (s.accumulate p sp bs size).src = s.src :=
  (State.append_src (s.commit p) bs (s.src_ne_sink h)).trans (State.commit_src s p)

theorem Effect.params_eq {op : Byte} {s u : State} (h : Effect op s u) : u.params = s.params := by
  cases h <;> simp

/-- What a command of number `op`, other than RESET, leaves of the dictionary domain (10_state.md rule R22):
each part is changed by the commands that own it alone. -/
structure DictionaryFrame (op : Byte) (s t : State) : Prop where
  /-- The removal table, but for RH_INIT. -/
  table : op ≠ 0x20 → t.rhReady = s.rhReady ∧ t.rhRemove = s.rhRemove
  /-- The extent of the dictionary, but for BH_INIT. -/
  extent : op ≠ 0x30 →
    t.bhReady = s.bhReady ∧ t.srcSize = s.srcSize ∧ t.bhStartOffset = s.bhStartOffset
  /-- The blocks of the index, but for BH_INIT and BH_ADD_THROUGH. -/
  blocks : ¬ (op = 0x30 ∨ op = 0x31) → t.bhHead = s.bhHead ∧ t.bhNext = s.bhNext ∧
    t.bhLastBlock = s.bhLastBlock ∧ t.bhLastEnd = s.bhLastEnd
  /-- The bytes of SRC, but for MEM_WRITE. -/
  source : op ≠ 0x06 → ∀ a, t.readByte .src a = s.readByte .src a

section Effect

variable {op : Byte} {s u : State}

theorem Effect.removalTable_eq (h : Effect op s u) (reset : op ≠ 0x01) (rhInit : op ≠ 0x20) :
    u.rhReady = s.rhReady ∧ u.rhRemove = s.rhRemove := by
  cases h with
  | reset => exact absurd rfl reset
  | rhInit => exact absurd rfl rhInit
  | _ => exact ⟨by simp, by simp⟩

theorem Effect.extent_eq (h : Effect op s u) (reset : op ≠ 0x01) (bhInit : op ≠ 0x30) :
    u.bhReady = s.bhReady ∧ u.srcSize = s.srcSize ∧ u.bhStartOffset = s.bhStartOffset := by
  cases h with
  | reset => exact absurd rfl reset
  | bhInit | bhPopulate => exact absurd rfl bhInit
  | _ => exact ⟨by simp, by simp, by simp⟩

theorem Effect.blocks_eq (h : Effect op s u) (reset : op ≠ 0x01) (index : ¬ (op = 0x30 ∨ op = 0x31)) :
    u.bhHead = s.bhHead ∧ u.bhNext = s.bhNext ∧ u.bhLastBlock = s.bhLastBlock ∧
      u.bhLastEnd = s.bhLastEnd := by
  cases h with
  | reset => exact absurd rfl reset
  | bhInit | bhPopulate => exact absurd (.inl rfl) index
  | bhAddThrough => exact absurd (.inr rfl) index
  | _ => exact ⟨by simp, by simp, by simp, by simp⟩

/-- Only RESET begins a new epoch, in which unwritten bytes are free again (log 2). -/
theorem Effect.epoch_eq (h : Effect op s u) (reset : op ≠ 0x01) : u.epoch = s.epoch := by
  cases h with
  | reset => exact absurd rfl reset
  | _ => simp

theorem Effect.src_eq (h : Effect op s u) (reset : op ≠ 0x01) (memWrite : op ≠ 0x06) : u.src = s.src := by
  cases h with
  | reset => exact absurd rfl reset
  | memWrite => exact absurd rfl memWrite
  | varintEnc => exact State.append_src s _ (by decide)
  | serStart _ flags bytes => exact State.append_src ((s.setFormatFlags flags).clearWindow) bytes (by decide)
  | serOutput => exact State.append_src s s.windowBytes (by decide)
  | accumulate _ _ inst size mode sp operand p cache which =>
    refine State.accumulate_src _ _ _ _ ?_
    obtain ⟨-, -, -, rfl, -⟩ | ⟨-, -, -, rfl, -⟩ | ⟨-, -, rfl, -⟩ := which
    all_goals decide
  | _ => simp

theorem Effect.dictionaryFrame (h : Effect op s u) (reset : op ≠ 0x01) : DictionaryFrame op s u where
  table := h.removalTable_eq reset
  extent := h.extent_eq reset
  blocks := h.blocks_eq reset
  source memWrite := State.readByte_congr (h.src_eq reset memWrite) (h.epoch_eq reset)

end Effect

theorem DictionaryFrame.respond {op : Byte} {s t : State} (h : DictionaryFrame op s t) (r : Response) :
    DictionaryFrame op s (t.respond r) :=
  ⟨h.table, h.extent, h.blocks, h.source⟩

theorem dictionaryFrame_takeFault (op : Byte) (s : State) (c : Cause) (info : Field) :
    DictionaryFrame op s (s.takeFault op c info) where
  table _ := ⟨by simp, by simp⟩
  extent _ := ⟨by simp, by simp, by simp⟩
  blocks _ := ⟨by simp, by simp, by simp, by simp⟩
  source _ := s.readByte_takeFault op c info .src

/-- However a command other than RESET ends, it leaves what it does not own of the dictionary domain. -/
theorem Ending.dictionaryFrame {op : Byte} {s t : State} (h : Ending op s t) (reset : op ≠ 0x01) :
    DictionaryFrame op s t := by
  have same : DictionaryFrame op s s := (Effect.same op s).dictionaryFrame reset
  cases h with
  | refused => exact same.respond _
  | completed _ u r0 r1 r2 r3 effect => exact (effect.dictionaryFrame reset).respond _
  | endOfData => exact same.respond _
  | fault _ c info => exact dictionaryFrame_takeFault op s c info

/-- The parameters are constant, whatever a command does (00_scope.md rule R5). -/
theorem Ending.params_eq {op : Byte} {s t : State} (h : Ending op s t) : t.params = s.params := by
  cases h with
  | refused => rfl
  | completed _ u r0 r1 r2 r3 effect => exact effect.params_eq
  | endOfData => rfl
  | fault _ c info => exact State.takeFault_params s op c info

/-- A part that only the commands in `owner` change: it is kept, or the word presented is one of them. -/
theorem kept_or_owned {s : State} {w : CommandWord} {rest : List Input} (hs : s.inputs = .command w :: rest)
    {kept : Prop} (owner : Byte → Prop) (keep : ¬ owner (opBits w) → kept) :
    kept ∨ ∃ w rest, s.inputs = .command w :: rest ∧ owner (opBits w) :=
  (Classical.em (owner (opBits w))).symm.imp keep fun own => ⟨w, rest, hs, own⟩

/-- Settles O54, from the frame of every ending. -/
theorem dictionaryChangesOnlyAtItsCommands : Obligations.DictionaryChangesOnlyAtItsCommands := by
  intro s t h
  obtain ⟨-, rfl⟩ | ⟨rest, hs, rfl⟩ | ⟨rest, r, hs, rfl⟩ | ⟨w, rest, hs, he⟩ := step_next h
  · exact ⟨rfl, .inr (.inr ⟨.inl ⟨rfl, rfl⟩, .inl ⟨rfl, rfl, rfl⟩, .inl ⟨rfl, rfl, rfl, rfl⟩,
      .inl fun _ => rfl⟩)⟩
  · exact ⟨rfl, .inl ⟨rest, hs⟩⟩
  · exact ⟨rfl, .inr (.inr ⟨.inl ⟨rfl, rfl⟩, .inl ⟨rfl, rfl, rfl⟩, .inl ⟨rfl, rfl, rfl, rfl⟩,
      .inl fun _ => rfl⟩)⟩
  · refine ⟨he.params_eq, .inr ?_⟩
    by_cases reset : opBits w = 0x01
    · exact .inl ⟨w, rest, hs, reset⟩
    have frame := he.dictionaryFrame reset
    exact .inr ⟨kept_or_owned hs (· = 0x20) frame.table, kept_or_owned hs (· = 0x30) frame.extent,
      kept_or_owned hs (fun op => op = 0x30 ∨ op = 0x31) frame.blocks,
      kept_or_owned hs (· = 0x06) frame.source⟩

end Sys2Proof.Machine

/-! ## Registers: every step keeps their ranges, the removal table and the error registers (10_state.md)

One lemma per shared operation: what it keeps of the address cache, of the best match, of the length
registers. From them, that every update a command can complete with keeps the ranges (O57). -/

namespace Sys2Proof.Machine

/-! ### Arrays whose unlisted entries are 0 -/

theorem Sparse.nonzero_iff {a : Sparse Nat} : Sparse.nonzero a = true ↔ ∀ e ∈ a, e.2 ≠ 0 := by
  simp [Sparse.nonzero]

theorem Sparse.mem_insert {α : Type} {k : Nat} {v : α} {m : Sparse α} {e : Nat × α}
    (h : e ∈ Sparse.insert k v m) : e = (k, v) ∨ e ∈ m := by
  induction m with
  | nil => exact .inl (List.mem_singleton.mp h)
  | cons head rest ih =>
    unfold Sparse.insert at h
    split_ifs at h with before same
    · exact List.mem_cons.mp h
    · exact (List.mem_cons.mp h).imp id (List.mem_cons_of_mem _)
    · obtain rfl | tail := List.mem_cons.mp h
      · exact .inr List.mem_cons_self
      · exact (ih tail).imp id (List.mem_cons_of_mem _)

theorem Sparse.mem_of_mem_erase {α : Type} {k : Nat} {m : Sparse α} {e : Nat × α}
    (h : e ∈ Sparse.erase k m) : e ∈ m := by
  induction m with
  | nil => exact h
  | cons head rest ih =>
    unfold Sparse.erase at h
    split_ifs at h with same
    · exact List.mem_cons_of_mem _ h
    · obtain rfl | tail := List.mem_cons.mp h
      · exact List.mem_cons_self
      · exact List.mem_cons_of_mem _ (ih tail)

theorem nonzero_writeZero {a : Sparse Nat} (h : Sparse.nonzero a = true) (k v : Nat) :
    Sparse.nonzero (writeZero a k v) = true := by
  rw [Sparse.nonzero_iff] at h ⊢
  intro e he
  unfold writeZero at he
  split_ifs at he with zero
  · exact h e (Sparse.mem_of_mem_erase he)
  · obtain rfl | old := Sparse.mem_insert he
    · exact zero
    · exact h e old

theorem below_writeZero {n k : Nat} {a : Sparse Nat} (h : Sparse.below n a = true) (hk : k < n) (v : Nat) :
    Sparse.below n (writeZero a k v) = true := by
  unfold writeZero
  split_ifs
  · exact Sparse.below_erase k h
  · exact Sparse.below_insert v h hk

/-! ### The address cache -/

/-- What the cache's invariant asks of one of its arrays, AC_NEAR or AC_SAME, of `n` slots (10_state.md rule
R32). -/
structure AddressArray (n : Nat) (a : Sparse Nat) : Prop where
  rising : Sparse.rising a = true
  below : Sparse.below n a = true
  nonzero : Sparse.nonzero a = true
  le : ∀ i, readZero a i ≤ max32

theorem addressArray_nil (n : Nat) : AddressArray n [] := ⟨rfl, rfl, rfl, fun _ => Nat.zero_le _⟩

theorem AddressArray.writeZero {n k v : Nat} {a : Sparse Nat} (h : AddressArray n a) (hk : k < n)
    (hv : v ≤ max32) : AddressArray n (writeZero a k v) where
  rising := rising_writeZero h.rising k v
  below := below_writeZero h.below hk v
  nonzero := nonzero_writeZero h.nonzero k v
  le i := by
    rw [readZero_writeZero h.rising]
    split
    · exact hv
    · exact h.le i

theorem AddrCache.inv_iff {c : AddrCache} :
    c.Inv ↔ c.nearSize + c.sameSize ≤ 254 ∧ (c.nextSlot < c.nearSize ∨ c.nextSlot = 0) ∧
      AddressArray c.nearSize c.near ∧ AddressArray (c.sameSize * 256) c.same :=
  ⟨fun h => ⟨h.sizes_le, h.slot_lt, ⟨h.near_rising, h.near_below, h.near_nonzero, h.near_le⟩,
      ⟨h.same_rising, h.same_below, h.same_nonzero, h.same_le⟩⟩,
    fun ⟨sizes, slot, near, same⟩ => ⟨sizes, slot, near.rising, near.below, near.nonzero, near.le,
      same.rising, same.below, same.nonzero, same.le⟩⟩

/-- A cache all zero is within its sizes (43_address_cache.md rules R174, R175). -/
theorem AddrCache.inv_cleared {near same : Nat} (h : near + same ≤ 254) :
    (AddrCache.cleared near same).Inv :=
  AddrCache.inv_iff.mpr ⟨h, .inr rfl, addressArray_nil _, addressArray_nil _⟩

theorem AddrCache.Inv.clear {c : AddrCache} (h : c.Inv) : c.clear.Inv := AddrCache.inv_cleared h.sizes_le

/-- An address put in the cache keeps it within its sizes (43_address_cache.md rule R171): the slot written
is one of the array's, and the next slot wraps round. -/
theorem AddrCache.Inv.update {c : AddrCache} (h : c.Inv) {addr : Nat} (le : addr ≤ max32) :
    (c.update addr).Inv := by
  obtain ⟨sizes, slot, near, same⟩ := AddrCache.inv_iff.mp h
  refine AddrCache.inv_iff.mpr ⟨sizes, ?_, ?_, ?_⟩
  · by_cases hn : 0 < c.nearSize
    · exact .inl (by simpa [AddrCache.update, hn] using Nat.mod_lt _ hn)
    · simpa [AddrCache.update, hn] using slot
  · by_cases hn : 0 < c.nearSize
    · simpa [AddrCache.update, hn] using near.writeZero (slot.elim id fun zero => zero ▸ hn) le
    · simpa [AddrCache.update, hn] using near
  · by_cases hs : 0 < c.sameSize
    · simpa [AddrCache.update, hs] using same.writeZero (Nat.mod_lt addr (by omega)) le
    · simpa [AddrCache.update, hs] using same

/-! ### Operations that write one group of registers -/

/-- The registers of the state right after reset are in their ranges (10_state.md rule R36). -/
theorem State.rangeInv_resetWith (p : Params) : (State.resetWith p).RangeInv where
  tgt_size_le := Nat.zero_le _
  tgt_lo_le := Nat.zero_le _
  bm_src_ge := le_refl _
  bm_src_le := (by decide : (-1 : Int) ≤ max32)
  bm_tgt_le := Nat.zero_le _
  bm_size_le := Nat.zero_le _
  in_cursor_le := Nat.zero_le _
  in_limit_le := Nat.zero_le _
  cache_inv := AddrCache.inv_cleared (by decide)
  max_mode_le := (by decide : 8 ≤ 255)
  win_src_pos_le := Nat.zero_le _
  win_len_le := Nat.zero_le _
  checksum_lt := (by decide : 0 < 2 ^ 32)
  last_ge := le_refl _
  last_lt := (by decide : (-1 : Int) < (0 : Nat))
  data_len_le := Nat.zero_le _
  inst_len_le := Nat.zero_le _
  addr_len_le := Nat.zero_le _
  out_len_le := Nat.zero_le _

theorem State.rangeInv_fullReset (s : State) : s.fullReset.RangeInv :=
  { State.rangeInv_resetWith s.params with }

/-- SESSION_RESET leaves the session registers at their values after reset (10_state.md rule R36). -/
theorem State.rangeInv_sessionReset (s : State) : s.sessionReset.RangeInv :=
  { State.rangeInv_resetWith s.params with }

section RangeInv

variable {s : State}

/-- The ranges, carried along a frame: where `s'` is the state written with all but what the write concerns
put back, the registers it does not concern are in their ranges. -/
theorem State.RangeInv.of_eq {s' : State} (h : s.RangeInv) (frame : s' = s) : s'.RangeInv := frame ▸ h

/-- WRREG writes a value of the register's range (46_system.md rule R244). -/
theorem State.RangeInv.writeReg (h : s.RangeInv) {n : Nat} {v lo hi : Int}
    (range : s.writeRange n = some (lo, hi)) (ge : lo ≤ v) (le : v ≤ hi) : (s.writeReg n v).RangeInv := by
  unfold State.writeRange at range
  split at range
  all_goals cases range
  · exact { h with tgt_size_le := Int.toNat_le.mpr le }
  · exact { h with tgt_lo_le := Int.toNat_le.mpr le }
  · exact { h with bm_src_ge := ge, bm_src_le := le }
  · exact { h with bm_tgt_le := Int.toNat_le.mpr le }
  · exact { h with bm_size_le := Int.toNat_le.mpr le }
  · exact { h with in_cursor_le := Int.toNat_le.mpr le }
  · exact { h with in_limit_le := Int.toNat_le.mpr le }

theorem State.RangeInv.writeByte (h : s.RangeInv) (sp : Space) (a : Nat) (v : Byte) :
    (s.writeByte sp a v).RangeInv :=
  { h.of_eq (State.writeByte_frame s sp a v) with }

theorem State.RangeInv.addBlocksThrough (h : s.RangeInv) (stop : Nat) :
    (s.addBlocksThrough stop).RangeInv :=
  { h.of_eq (State.addBlocksThrough_frame s stop) with }

/-- A cleared window holds nothing (45_serializer.md rule R222). -/
theorem State.RangeInv.clearWindow (h : s.RangeInv) : s.clearWindow.RangeInv :=
  { h with
    cache_inv := h.cache_inv.clear
    win_len_le := (Nat.le_add_right _ _).trans h.win_len_le
    checksum_lt := (by decide : 0 < 2 ^ 32)
    last_ge := le_refl _
    last_lt := (by decide : (-1 : Int) < (0 : Nat))
    data_len_le := Nat.zero_le _
    inst_len_le := Nat.zero_le _
    addr_len_le := Nat.zero_le _ }

/-! ### The length registers -/

theorem State.RangeInv.len_le (h : s.RangeInv) : ∀ sp, s.len sp ≤ Params.cap s.params sp
  | .src => Nat.zero_le _
  | .tgt => Nat.zero_le _
  | .inp => Nat.zero_le _
  | .data => h.data_len_le
  | .inst => h.inst_len_le
  | .addr => h.addr_len_le
  | .out => h.out_len_le

/-- An append leaves every length at least what it was. -/
theorem State.len_le_append (s : State) (sp sp' : Space) (bs : List Byte) :
    s.len sp' ≤ (s.append sp bs).len sp' := by
  by_cases other : sp' = sp
  · subst other
    cases sp' <;> simp [State.append, State.len, State.setLen]
  · exact (State.len_append_of_ne s bs other).ge

/-- An append with room for its bytes leaves every length within its capacity. -/
theorem State.RangeInv.len_append_le (h : s.RangeInv) {sp : Space} {bs : List Byte}
    (room : s.len sp + bs.length ≤ Params.cap s.params sp) (sp' : Space) :
    (s.append sp bs).len sp' ≤ Params.cap s.params sp' := by
  by_cases other : sp' = sp
  · subst other
    cases sp' with
    | src | tgt | inp => exact Nat.zero_le _
    | data | inst | addr | out => exact (State.len_append_self s bs rfl).trans_le room
  · exact (State.len_append_of_ne s bs other).trans_le (h.len_le sp')

/-- An append that fits keeps the ranges (20_memory.md rule R66). -/
theorem State.RangeInv.append (h : s.RangeInv) {sp : Space} {bs : List Byte}
    (room : s.len sp + bs.length ≤ Params.cap s.params sp) : (s.append sp bs).RangeInv :=
  have fit (sp' : Space) : (s.append sp bs).len sp' ≤ Params.cap (s.append sp bs).params sp' :=
    (State.append_params s sp bs).symm ▸ h.len_append_le room sp'
  { h.of_eq (State.append_frame s sp bs) with
    last_lt := by
      rw [State.append_lastOpcodeIndex]
      exact h.last_lt.trans_le (Int.ofNat_le.mpr (s.len_le_append sp .inst bs))
    data_len_le := fit .data
    inst_len_le := fit .inst
    addr_len_le := fit .addr
    out_len_le := fit .out }

/-! ### Accumulating an instruction -/

/-- Where no space overflows, the plan's bytes fit in INST, and the operand bytes in their sink after them
(45_serializer.md rules R217 to R219). -/
theorem State.room_of_overflow_none {p : Plan} {sp : Space} {m : Nat} (isSink : sp = .data ∨ sp = .addr)
    (h : s.overflow sp p.bytes.length m = none) :
    s.instLen + p.bytes.length ≤ s.params.instCap ∧
      (s.commit p).len (s.sink sp) + m ≤ Params.cap s.params (s.sink sp) := by
  unfold State.overflow at h
  unfold State.sink
  split at h <;> rename_i merged
  · split at h <;> cases h
    rename_i room
    have room : s.instLen + (p.bytes.length + m) ≤ s.params.instCap := State.hasRoom_iff.mp room
    simp only [merged, if_true, State.len, Params.cap, State.commit_instLen]
    omega
  · have rooms : s.hasRoom .inst p.bytes.length = true ∧ s.hasRoom sp m = true := by
      obtain rfl | rfl := isSink
      all_goals
        repeat' split at h
        all_goals simp_all
    rw [if_neg merged]
    refine ⟨State.hasRoom_iff.mp rooms.1, ?_⟩
    have sinkRoom := State.hasRoom_iff.mp rooms.2
    obtain rfl | rfl := isSink
    · exact (Nat.add_le_add_right (State.commit_dataLen s p).le m).trans sinkRoom
    · exact (Nat.add_le_add_right (State.commit_addrLen s p).le m).trans sinkRoom

/-- The plan leaves no opcode byte to rewrite, or the one that stands first among the bytes it appends at
`instLen` (45_serializer.md rule R215). -/
def Plan.LastAppended (p : Plan) (instLen : Nat) : Prop :=
  p.newLast = -1 ∨ (p.newLast = instLen ∧ 1 ≤ p.bytes.length)

theorem Plan.LastAppended.newLast_ge {p : Plan} {instLen : Nat} (h : p.LastAppended instLen) :
    -1 ≤ p.newLast := by
  obtain last | ⟨last, -⟩ := h <;> omega

theorem Plan.LastAppended.newLast_lt {p : Plan} {instLen : Nat} (h : p.LastAppended instLen) :
    p.newLast < (instLen + p.bytes.length : Nat) := by
  obtain last | ⟨last, appended⟩ := h <;> omega

theorem State.plan_lastAppended {inst : Byte} {size mode : Nat} {p : Plan}
    (h : s.plan inst size mode = some p) : p.LastAppended s.instLen := by
  unfold State.plan at h
  obtain merged | ⟨-, single⟩ := Option.or_eq_some_iff.mp h
  · unfold State.merge at merged
    split at merged
    · obtain sized | ⟨-, unsized⟩ := Option.or_eq_some_iff.mp merged
      · unfold State.mergeSized at sized
        cases (Option.ite_none_right_eq_some.mp sized).2
        exact .inl rfl
      · unfold State.mergeUnsized at unsized
        cases (Option.ite_none_right_eq_some.mp unsized).2
        exact .inl rfl
    · cases merged
  · obtain sized | ⟨-, unsized⟩ := Option.or_eq_some_iff.mp single
    · unfold State.singleSized at sized
      cases (Option.ite_none_right_eq_some.mp sized).2
      exact .inr ⟨rfl, le_refl _⟩
    · unfold State.singleUnsized at unsized
      cases (Option.ite_none_right_eq_some.mp unsized).2
      exact .inr ⟨rfl, Nat.le_add_left _ _⟩

/-- Committing a plan whose bytes fit keeps the ranges (45_serializer.md rule R215). -/
theorem State.RangeInv.commit (h : s.RangeInv) {p : Plan}
    (last : p.LastAppended s.instLen)
    (room : s.instLen + p.bytes.length ≤ s.params.instCap) : (s.commit p).RangeInv :=
  have rewritten : (s.rewriteOpcode p.rewrite).RangeInv :=
    { h.of_eq (State.rewriteOpcode_frame s p.rewrite) with }
  have appended : ((s.rewriteOpcode p.rewrite).append .inst p.bytes).RangeInv :=
    rewritten.append (by simpa [State.len, Params.cap] using room)
  { appended with
    last_ge := last.newLast_ge
    last_lt := by
      rw [State.commit_lastOpcodeIndex, State.commit_instLen]
      exact last.newLast_lt }

/-- Accumulating an instruction whose bytes fit keeps the ranges (45_serializer.md rules R216 to R219). -/
theorem State.RangeInv.accumulate (h : s.RangeInv) {p : Plan} {sp : Space} {operand : List Byte} {size : Nat}
    (last : p.LastAppended s.instLen)
    (instRoom : s.instLen + p.bytes.length ≤ s.params.instCap)
    (sinkRoom : (s.commit p).len (s.sink sp) + operand.length ≤ Params.cap s.params (s.sink sp))
    (le : s.winSrcSize + s.winTargetLen + size ≤ max32) : (s.accumulate p sp operand size).RangeInv :=
  have appended : ((s.commit p).append (s.sink sp) operand).RangeInv :=
    (h.commit last instRoom).append ((State.commit_params s p).symm ▸ sinkRoom)
  { appended with
    win_len_le := by
      simpa only [State.accumulate, State.append_winSrcSize, State.append_winTargetLen,
        State.commit_winSrcSize, State.commit_winTargetLen, Nat.add_assoc] using le }

end RangeInv

/-! ### The best match -/

theorem newestBelow_lt {q : Nat → Bool} {n k : Nat} (h : newestBelow q n = some k) : k < n := by
  induction n with
  | zero => cases h
  | succ n ih =>
    unfold newestBelow at h
    split at h
    · cases h; exact Nat.lt_succ_self _
    · exact (ih h).trans (Nat.lt_succ_self n)

theorem runLength_le (q : Nat → Bool) (turns j : Nat) : runLength q turns j ≤ turns := by
  induction turns generalizing j with
  | zero => exact le_refl 0
  | succ turns ih =>
    unfold runLength
    split
    · exact Nat.succ_le_succ (ih (j + 1))
    · exact Nat.zero_le _

theorem State.extendLeft_le (s : State) (a tpos : Nat) : s.extendLeft a tpos ≤ a :=
  (runLength_le _ _ _).trans (Nat.min_le_left _ _)

theorem State.extendRight_le (s : State) (a tpos : Nat) :
    s.extendRight a tpos ≤ s.srcSize - (a + s.params.b) :=
  (runLength_le _ _ _).trans (Nat.min_le_left _ _)

/-- A set of blocks closed under BH_NEXT that the chain starts in holds the whole chain. -/
theorem forall_mem_chainFrom {next : Sparse Nat} {P : Nat → Prop}
    (closed : ∀ k j, P k → Sparse.lookup k next = some j → P j) {turns : Nat} {start : Option Nat}
    (first : ∀ k, start = some k → P k) : ∀ k ∈ chainFrom next turns start, P k := by
  induction turns generalizing start with
  | zero => exact fun k hk => nomatch hk
  | succ turns ih =>
    cases start with
    | none => exact fun k hk => nomatch hk
    | some j =>
      intro k hk
      obtain rfl | tail := List.mem_cons.mp hk
      · exact first k rfl
      · exact ih (fun i hi => closed j i (first j rfl) hi) k tail

/-- The head of a bucket is a block of the index. -/
theorem State.IndexInv.head_le {s : State} (hi : s.IndexInv) (ready : s.bhReady = true) {i k : Nat}
    (h : Sparse.lookup i s.bhHead = some k) : (k : Int) ≤ s.bhLastBlock := by
  rw [hi.head_newest ready] at h
  have := newestBelow_lt h
  omega

/-- The block after one of the index on a chain is one of the index. -/
theorem State.IndexInv.next_le {s : State} (hi : s.IndexInv) (ready : s.bhReady = true) {k j : Nat}
    (hk : (k : Int) ≤ s.bhLastBlock) (h : Sparse.lookup k s.bhNext = some j) :
    (j : Int) ≤ s.bhLastBlock := by
  rw [hi.next_newest ready k hk] at h
  have := newestBelow_lt h
  omega

/-- A block of the index lies inside SRC_SIZE (42_block_hash.md rule R154). -/
theorem State.IndexInv.block_inside {s : State} (hi : s.IndexInv) {k : Nat}
    (hk : (k : Int) ≤ s.bhLastBlock) : k * s.params.b + s.params.b ≤ s.srcSize := by
  have : ((k : Int) + 1) * s.params.b ≤ s.srcSize :=
    (Int.mul_le_mul_of_nonneg_right (by omega) (Int.natCast_nonneg _)).trans hi.last_inside
  rw [Int.add_mul, Int.one_mul] at this
  exact_mod_cast this

/-- Every candidate the search visits lies inside SRC_SIZE (42_block_hash.md rules R152, R155). -/
theorem State.IndexInv.candidates_inside {s : State} (hi : s.IndexInv) (ready : s.bhReady = true)
    (hash tpos : Nat) {k : Nat} (hk : k ∈ s.candidates tpos (s.chainHead hash)) :
    k * s.params.b + s.params.b ≤ s.srcSize :=
  hi.block_inside (forall_mem_chainFrom (P := fun j => (j : Int) ≤ s.bhLastBlock)
    (fun _ _ => hi.next_le ready) (fun _ => hi.head_le ready) k (List.mem_filter.mp hk).1)

section Search

variable {s : State} {tpos k : Nat}

/-- A match found at a block inside SRC_SIZE lies inside SRC_SIZE as a whole, so its start and its size are
addresses (42_block_hash.md rules R158 to R160). -/
theorem State.RangeInv.tryCandidate (h : s.RangeInv) (inside : k * s.params.b + s.params.b ≤ s.srcSize)
    (bias : s.srcSize + s.bhStartOffset ≤ max32) (word : tpos ≤ max32) :
    (s.tryCandidate tpos k).RangeInv := by
  have left := s.extendLeft_le (k * s.params.b) tpos
  have right := s.extendRight_le (k * s.params.b) tpos
  unfold State.tryCandidate
  dsimp only
  split
  · exact { h with
      bm_src_ge := by dsimp only; omega
      bm_src_le := by dsimp only; omega
      bm_tgt_le := by dsimp only; omega
      bm_size_le := by dsimp only; omega }
  · exact h

/-- Trying a candidate writes the best match and nothing else: what bounds the search stays. -/
theorem State.tryCandidate_extent (s : State) (tpos k : Nat) :
    (s.tryCandidate tpos k).params = s.params ∧ (s.tryCandidate tpos k).srcSize = s.srcSize ∧
      (s.tryCandidate tpos k).bhStartOffset = s.bhStartOffset :=
  have frame := State.foldl_tryCandidate_frame s tpos [k]
  ⟨(congrArg State.params frame :), (congrArg State.srcSize frame :),
    (congrArg State.bhStartOffset frame :)⟩

theorem State.RangeInv.foldl_tryCandidate {ks : List Nat} (h : s.RangeInv)
    (inside : ∀ k ∈ ks, k * s.params.b + s.params.b ≤ s.srcSize)
    (bias : s.srcSize + s.bhStartOffset ≤ max32) (word : tpos ≤ max32) :
    (ks.foldl (State.tryCandidate tpos) s).RangeInv := by
  induction ks generalizing s with
  | nil => exact h
  | cons k rest ih =>
    obtain ⟨params, size, offset⟩ := s.tryCandidate_extent tpos k
    refine ih (h.tryCandidate (inside k List.mem_cons_self) bias word) (fun j hj => ?_) ?_
    · rw [params, size]
      exact inside j (List.mem_cons_of_mem k hj)
    · rw [size, offset]
      exact bias

theorem State.RangeInv.findBest (h : s.RangeInv) (hi : s.IndexInv) (ready : s.bhReady = true) (hash : Nat)
    (word : tpos ≤ max32) : (s.findBest hash tpos).RangeInv :=
  h.foldl_tryCandidate (fun _ hk => hi.candidates_inside ready hash tpos (List.mem_of_mem_take hk))
    hi.bias_le word

end Search

/-! ### Every step -/

section Effect

variable {op : Byte} {s u t : State}

/-- Every update a command completes with keeps the registers in their ranges. -/
theorem Effect.rangeInv (e : Effect op s u) (hi : s.IndexInv) (hs : s.SerInv) (h : s.RangeInv) :
    u.RangeInv := by
  cases e with
  | same | rhInit | bhInit | ctWrite | serFinish => exact { h with }
  | reset => exact s.rangeInv_fullReset
  | sessionReset => exact s.rangeInv_sessionReset
  | wrreg _ n v lo hi range ge le => exact h.writeReg range ge le
  | memWrite _ sp a v => exact h.writeByte sp a v
  | varintEnc _ _ v _ room => exact h.append room
  | parse _ _ q _ le => exact { h with in_cursor_le := le.trans h.in_limit_le }
  | bhPopulate _ size offset =>
    have emptied : (s.emptyIndex size offset).RangeInv := { h with }
    exact { emptied.addBlocksThrough size with }
  | bhAddThrough _ stop => exact { h.addBlocksThrough stop.toNat with }
  | findBest _ hash tpos ready word => exact h.findBest hi ready hash word
  | bmClear =>
    exact { h with
      bm_src_ge := le_refl _
      bm_src_le := (by decide : (-1 : Int) ≤ max32)
      bm_tgt_le := Nat.zero_le _
      bm_size_le := Nat.zero_le _ }
  | acConfig _ near same _ le => exact { h with cache_inv := AddrCache.inv_cleared le }
  | acReset => exact { h with cache_inv := h.cache_inv.clear }
  | acEncode _ a _ lt => exact { h with cache_inv := h.cache_inv.update lt.le }
  | acDecode _ a q _ lt le =>
    exact { h with cache_inv := h.cache_inv.update lt.le, in_cursor_le := le.trans h.in_limit_le }
  | ctDefault => exact { h with max_mode_le := (by decide : 8 ≤ 255) }
  | ctValidate _ m _ lt => exact { h with max_mode_le := Nat.le_of_lt_succ lt }
  | serStart _ flags bytes _ _ _ room five =>
    have flagged : (s.setFormatFlags flags).RangeInv := { h with }
    have started : (((s.setFormatFlags flags).clearWindow).append .out bytes).RangeInv :=
      flagged.clearWindow.append (by rw [five]; exact room)
    exact { started with
      win_src_pos_le := Nat.zero_le _
      win_len_le := by simp }
  | serWindow _ m size pos ready sizeLe posLe =>
    have empty : s.winTargetLen = 0 := (hs.idle_empty (by simp [ready])).1
    exact { h with
      win_src_pos_le := posLe
      win_len_le := by simpa [empty] using sizeLe }
  | accumulate _ _ inst size mode sp operand p cache which _ _ le planned room =>
    have cached : cache.Inv ∧ (sp = .data ∨ sp = .addr) := by
      obtain ⟨-, -, -, rfl, rfl⟩ | ⟨-, -, -, rfl, rfl⟩ | ⟨-, -, rfl, a, below, rfl, -⟩ := which
      · exact ⟨h.cache_inv, .inl rfl⟩
      · exact ⟨h.cache_inv, .inl rfl⟩
      · exact ⟨h.cache_inv.update (below.le.trans h.win_len_le), .inr rfl⟩
    have ranged : { s with cache := cache }.RangeInv := { h with cache_inv := cached.1 }
    obtain ⟨instRoom, sinkRoom⟩ :=
      State.room_of_overflow_none (s := { s with cache := cache }) cached.2 room
    exact ranged.accumulate (State.plan_lastAppended planned) instRoom sinkRoom le
  | serChecksum _ v _ lt => exact { h with checksum_lt := lt }
  | serOutputEmpty => exact { h.clearWindow with }
  | serOutput _ _ room =>
    have output : (s.append .out s.windowBytes).RangeInv := h.append room
    exact { output.clearWindow with }
  | outClear => exact { h with out_len_le := Nat.zero_le _ }

/-- RH_INIT writes the table of rule R141, a reset forgets it, and nothing else touches it. -/
theorem Effect.tableInv (e : Effect op s u) (h : s.TableInv) : u.TableInv := by
  intro ready
  cases e with
  | reset => cases ready
  | rhInit => rfl
  | _ => simpa using h (by simpa using ready)

/-- The error registers are cleared with FAILED by the two resets, and no other command that completes
touches them (60_exceptions.md rules R264, R266). -/
theorem Effect.errorInv (e : Effect op s u) (h : s.ErrorInv) : u.ErrorInv := by
  cases e with
  | reset | sessionReset => exact ⟨fun failed => Bool.noConfusion failed, fun _ => ⟨rfl, rfl, rfl⟩⟩
  | _ => simpa [State.ErrorInv] using h

/-- Fault entry sets FAILED with a cause, or leaves the record of the first fault (60_exceptions.md rule
R264). -/
theorem State.ErrorInv.takeFault (h : s.ErrorInv) (op : Byte) (c : Cause) (info : Field) :
    (s.takeFault op c info).ErrorInv := by
  cases failed : s.failed with
  | false =>
    rw [State.takeFault_first failed]
    exact ⟨fun _ => Option.some_ne_none c, fun ok => nomatch ok⟩
  | true =>
    rw [State.takeFault_again failed]
    exact h

/-- The invariants of the registers, together. -/
structure State.RegistersInv (s : State) : Prop where
  range : s.RangeInv
  table : s.TableInv
  error : s.ErrorInv

theorem State.RegistersInv.respond (h : s.RegistersInv) (r : Response) : (s.respond r).RegistersInv :=
  ⟨{ h.range with }, h.table, h.error⟩

theorem State.RegistersInv.takeFault (h : s.RegistersInv) (op : Byte) (c : Cause) (info : Field) :
    (s.takeFault op c info).RegistersInv where
  range := { h.range.of_eq (State.takeFault_frame s op c info) with }
  table := by simpa [State.TableInv] using h.table
  error := h.error.takeFault op c info

theorem Effect.registersInv (e : Effect op s u) (hi : s.IndexInv) (hs : s.SerInv) (h : s.RegistersInv) :
    u.RegistersInv :=
  ⟨e.rangeInv hi hs h.range, e.tableInv h.table, e.errorInv h.error⟩

/-- However a command ends, it keeps the registers. -/
theorem Ending.registersInv (e : Ending op s t) (hi : s.IndexInv) (hs : s.SerInv) (h : s.RegistersInv) :
    t.RegistersInv := by
  cases e with
  | refused => exact h.respond _
  | completed _ u r0 r1 r2 r3 effect => exact (effect.registersInv hi hs h).respond _
  | endOfData => exact h.respond _
  | fault _ c info => exact h.takeFault op c info

end Effect

/-- Settles O57, from what each ending of a command keeps. -/
theorem stepKeepsRegisters : Obligations.StepKeepsRegisters := by
  intro s t hi hs range table error h
  suffices kept : t.RegistersInv from ⟨kept.range, kept.table, kept.error⟩
  have presented (rest : List Input) : { s with inputs := rest }.RegistersInv :=
    ⟨{ range with }, table, error⟩
  obtain ⟨-, rfl⟩ | ⟨rest, -, rfl⟩ | ⟨rest, r, -, rfl⟩ | ⟨w, rest, -, ending⟩ := step_next h
  · exact ⟨range, table, error⟩
  · exact (Effect.reset _).registersInv { hi with } { hs with } (presented rest)
  · exact ⟨{ range with }, table, error⟩
  · exact ending.registersInv { hi with } { hs with } (presented rest)

end Sys2Proof.Machine

/-! ## Memory: which commands store, and the canonical form that every step keeps (20_memory.md)

What each shared operation that stores asks so that its bytes lie within their space; from it, that every
update a command can complete with keeps the memory canonical and inside its capacities (O55), and that an
update whose command stores nothing keeps every byte (O53). -/

namespace Sys2Proof.Machine

/-! ### The commands that store -/

/-- The numbers of the commands that store in a memory space, or make its bytes unspecified (20_memory.md
rule R60). -/
def storingOps : List Byte := [0x01, 0x06, 0x12, 0x13, 0x60, 0x62, 0x63, 0x64, 0x66]

/-- A command stores exactly if its number is one of `storingOps`. -/
theorem storesBytes_eq {i : Instr} {w : CommandWord} (hi : encode i = .command w) :
    storesBytes i = decide (opBits w ∈ storingOps) := by
  cases i <;> cases hi
  all_goals rw [opBits_commandWord]; rfl

section Effect

variable {op : Byte} {s u t : State}

/-- An update whose command stores nothing writes no space (20_memory.md rule R64). -/
theorem Effect.mem_eq (e : Effect op s u) (stores : op ∉ storingOps) (sp : Space) : u.mem sp = s.mem sp := by
  cases e with
  | reset | memWrite | serStart | serOutput => exact absurd (by decide) stores
  | varintEnc _ _ _ isEnc => obtain rfl | rfl := isEnc <;> exact absurd (by decide) stores
  | accumulate _ _ _ _ _ _ _ _ _ which =>
    obtain ⟨rfl, -⟩ | ⟨rfl, -⟩ | ⟨rfl, -⟩ := which <;> exact absurd (by decide) stores
  | _ => cases sp <;> simp [State.mem]

/-- A command accepted in the failed state changes nothing or leaves the failed state (60_exceptions.md rules
R265, R266). -/
theorem Effect.eq_or_leaves_failed (e : Effect op s u) (allowed : allowedWhenFailed op = true) :
    u = s ∨ u.failed = false := by
  cases e with
  | same => exact .inl rfl
  | reset | sessionReset => exact .inr rfl
  | varintEnc _ _ _ isEnc => obtain rfl | rfl := isEnc <;> exact absurd allowed (by decide)
  | parse _ _ _ isParse => obtain rfl | rfl | rfl := isParse <;> exact absurd allowed (by decide)
  | accumulate _ _ _ _ _ _ _ _ _ which =>
    obtain ⟨rfl, -⟩ | ⟨rfl, -⟩ | ⟨rfl, -⟩ := which <;> exact absurd allowed (by decide)
  | _ => exact absurd allowed (by decide)

/-- No command that completes sets FAILED (60_exceptions.md rule R264). -/
theorem Effect.failed_before (e : Effect op s u) (failed : u.failed = true) : s.failed = true := by
  cases e with
  | reset | sessionReset => cases failed
  | _ => simpa using failed

/-- A command that completes and leaves the block failed has changed nothing. -/
theorem Effect.eq_of_failed (e : Effect op s u) (gate : s.failed = false ∨ allowedWhenFailed op = true)
    (failed : u.failed = true) : u = s := by
  have allowed := gate.resolve_left (by simp [e.failed_before failed])
  exact (e.eq_or_leaves_failed allowed).resolve_right (by simp [failed])

/-- Only the commands of `storingOps` change a byte, and only by completing (20_memory.md rules R60, R64). -/
theorem Ending.readByte_eq (e : Ending op s t) (h : op ∉ storingOps ∨ t.failed = true) (sp : Space) (a : Nat) :
    t.readByte sp a = s.readByte sp a := by
  cases e with
  | refused => exact s.readByte_respond _ sp a
  | completed gate u r0 r1 r2 r3 effect =>
    rw [State.readByte_respond]
    obtain stores | failed := h
    · have reset : op ≠ 0x01 := fun eq => stores (eq ▸ by decide)
      exact State.readByte_congr (effect.mem_eq stores sp) (effect.epoch_eq reset) a
    · rw [effect.eq_of_failed gate failed]
  | endOfData => exact s.readByte_respond _ sp a
  | fault _ c info => exact s.readByte_takeFault op c info sp a

end Effect

/-- Settles O53: a command by its ending, an opcode byte as a turn of the reader, which moves the reader
alone. -/
theorem nonStoringInstructionsKeepMemory : Obligations.NonStoringInstructionsKeepMemory := by
  intro i s t h quiet sp a
  obtain ⟨op, a0, a1, a2, a3, r, hi, -⟩ | ⟨b, -, read⟩ := exec_shape i s
  · refine (exec_ending hi h).readByte_eq (quiet.imp (fun silent => ?_) And.left) sp a
    rw [storesBytes_eq hi] at silent
    exact of_decide_eq_false silent
  · rw [read] at h
    cases h
    rfl

/-! ### Bytes within their space -/

/-- What the memory's invariant asks of one space of `n` bytes: its list in canonical form, and every listed
address inside (20_memory.md rules R61, R65). -/
structure BytesWithin (n : Nat) (m : Sparse Byte) : Prop where
  rising : Sparse.rising m = true
  below : Sparse.below n m = true

theorem bytesWithin_nil (n : Nat) : BytesWithin n [] := ⟨rfl, rfl⟩

theorem BytesWithin.insert {n a : Nat} {m : Sparse Byte} (h : BytesWithin n m) (ha : a < n) (v : Byte) :
    BytesWithin n (Sparse.insert a v m) :=
  ⟨Sparse.rising_insert a v h.rising, Sparse.below_insert v h.below ha⟩

/-- Every space lists its bytes in canonical form, inside its capacity. -/
def State.SpacesInv (s : State) : Prop := ∀ sp, BytesWithin (Params.cap s.params sp) (s.mem sp)

theorem State.memoryInv_iff {s : State} : s.MemoryInv ↔ s.SpacesInv ∧ Sparse.rising s.ct = true := by
  unfold State.MemoryInv
  rw [State.memoryWf_iff]
  exact ⟨fun ⟨rising, below, table⟩ => ⟨fun sp => ⟨rising sp, below sp⟩, table⟩,
    fun ⟨spaces, table⟩ => ⟨fun sp => (spaces sp).rising, fun sp => (spaces sp).below, table⟩⟩

section SpacesInv

variable {s u t : State}

/-- The spaces depend on the listed bytes and the capacities alone. -/
theorem State.SpacesInv.of_eq (h : s.SpacesInv) (mem : ∀ sp, u.mem sp = s.mem sp)
    (params : u.params = s.params) : u.SpacesInv := fun sp => by
  rw [mem, params]
  exact h sp

/-- A byte written inside its space keeps the spaces (20_memory.md rule R65). -/
theorem State.SpacesInv.writeByte (h : s.SpacesInv) {sp : Space} {a : Nat}
    (inside : a < Params.cap s.params sp) (v : Byte) : (s.writeByte sp a v).SpacesInv := fun sp' => by
  rw [State.writeByte_params]
  by_cases other : sp' = sp
  · subst other
    rw [State.mem_writeByte_self]
    exact (h sp').insert inside v
  · rw [State.mem_writeByte_of_ne s a v other]
    exact h sp'

theorem State.SpacesInv.writeBytes (h : s.SpacesInv) {sp : Space} {a : Nat} {bs : List Byte}
    (inside : a + bs.length ≤ Params.cap s.params sp) : (s.writeBytes sp a bs).SpacesInv := by
  induction bs generalizing s a with
  | nil => exact h
  | cons v rest ih =>
    rw [List.length_cons] at inside
    refine ih (h.writeByte (by omega) v) ?_
    rw [State.writeByte_params]
    omega

/-- An append that fits keeps the spaces (20_memory.md rule R66). -/
theorem State.SpacesInv.append (h : s.SpacesInv) {sp : Space} {bs : List Byte}
    (room : s.len sp + bs.length ≤ Params.cap s.params sp) : (s.append sp bs).SpacesInv :=
  (h.writeBytes room).of_eq (State.mem_setLen _ sp · _) (by simp)

/-- Clearing the window writes no byte (45_serializer.md rule R222). -/
theorem State.SpacesInv.clearWindow (h : s.SpacesInv) : s.clearWindow.SpacesInv := h

/-! ### Accumulating an instruction -/

/-- A plan rewrites an opcode byte only where there is one to rewrite (45_serializer.md rule R215). -/
theorem State.plan_rewrite {inst : Byte} {size mode : Nat} {p : Plan} (h : s.plan inst size mode = some p)
    (rewrites : p.rewrite ≠ none) : 0 ≤ s.lastOpcodeIndex := by
  unfold State.plan at h
  obtain merged | ⟨-, single⟩ := Option.or_eq_some_iff.mp h
  · unfold State.merge at merged
    exact (Option.ite_none_right_eq_some.mp merged).1
  · obtain sized | ⟨-, unsized⟩ := Option.or_eq_some_iff.mp single
    · unfold State.singleSized at sized
      cases (Option.ite_none_right_eq_some.mp sized).2
      exact absurd rfl rewrites
    · unfold State.singleUnsized at unsized
      cases (Option.ite_none_right_eq_some.mp unsized).2
      exact absurd rfl rewrites

/-- The opcode byte a plan rewrites lies inside INST (10_state.md rule R36; 45_serializer.md rule R215). -/
theorem State.RangeInv.rewrite_inside (h : s.RangeInv) {inst : Byte} {size mode : Nat} {p : Plan}
    (planned : s.plan inst size mode = some p) (rewrites : p.rewrite ≠ none) :
    s.lastOpcodeIndex.toNat < s.params.instCap := by
  have := State.plan_rewrite planned rewrites
  have := h.last_lt
  have := h.inst_len_le
  omega

theorem State.SpacesInv.rewriteOpcode (h : s.SpacesInv) {b : Option Byte}
    (inside : b ≠ none → s.lastOpcodeIndex.toNat < s.params.instCap) : (s.rewriteOpcode b).SpacesInv := by
  cases b with
  | none => exact h
  | some v => exact h.writeByte (sp := .inst) (inside (Option.some_ne_none v)) v

/-- Accumulating an instruction whose bytes fit keeps the spaces (45_serializer.md rules R215 to R219). -/
theorem State.SpacesInv.accumulate (h : s.SpacesInv) {p : Plan} {sp : Space} {operand : List Byte} {size : Nat}
    (inside : p.rewrite ≠ none → s.lastOpcodeIndex.toNat < s.params.instCap)
    (instRoom : s.instLen + p.bytes.length ≤ s.params.instCap)
    (sinkRoom : (s.commit p).len (s.sink sp) + operand.length ≤ Params.cap s.params (s.sink sp)) :
    (s.accumulate p sp operand size).SpacesInv :=
  have committed : (s.commit p).SpacesInv :=
    (h.rewriteOpcode inside).append (sp := .inst) (by simpa [State.len, Params.cap] using instRoom)
  committed.append ((State.commit_params s p).symm ▸ sinkRoom)

end SpacesInv

/-! ### Every step -/

section Effect

variable {op : Byte} {s u t : State}

/-- Every update a command completes with keeps the bytes within their spaces: the storing ones have checked
the address or the room, the others write no space. -/
theorem Effect.spacesInv (e : Effect op s u) (range : s.RangeInv) (h : s.SpacesInv) : u.SpacesInv := by
  by_cases stores : op ∈ storingOps
  case neg => exact h.of_eq (e.mem_eq stores) e.params_eq
  case pos =>
    cases e with
    | same | serOutputEmpty => exact h
    | reset => exact fun sp => by cases sp <;> exact bytesWithin_nil _
    | memWrite _ sp a v _ inside => exact h.writeByte inside v
    | varintEnc _ _ v _ room => exact h.append (sp := .out) room
    | parse _ _ _ isParse => obtain rfl | rfl | rfl := isParse <;> exact absurd stores (by decide)
    | serStart _ flags bytes _ _ _ room five =>
      have flagged : (s.setFormatFlags flags).SpacesInv := h
      exact flagged.clearWindow.append (sp := .out) (five ▸ room)
    | accumulate _ _ inst size mode sp operand p cache which _ _ _ planned room =>
      have isSink : sp = .data ∨ sp = .addr := by
        obtain ⟨-, -, -, data, -⟩ | ⟨-, -, -, data, -⟩ | ⟨-, -, addr, -⟩ := which
        · exact .inl data
        · exact .inl data
        · exact .inr addr
      have cached : { s with cache := cache }.SpacesInv := h
      obtain ⟨instRoom, sinkRoom⟩ :=
        State.room_of_overflow_none (s := { s with cache := cache }) isSink room
      exact cached.accumulate (range.rewrite_inside planned) instRoom sinkRoom
    | serOutput _ _ room => exact (h.append (sp := .out) room).clearWindow
    | _ => exact absurd stores (by decide)

/-- The list of changed code-table entries stays in its form: CT_WRITE sets one entry, CT_DEFAULT and the
resets empty it (44_code_table.md rules R194, R195). -/
theorem Effect.table_rising (e : Effect op s u) (h : Sparse.rising s.ct = true) :
    Sparse.rising u.ct = true := by
  cases e with
  | reset | sessionReset | ctDefault => rfl
  | ctWrite _ op entry =>
    change Sparse.rising (if entry = defaultEntry op then _ else _) = true
    split
    · exact Sparse.rising_erase op h
    · exact Sparse.rising_insert op entry h
  | _ => simpa using h

theorem Effect.memoryInv (e : Effect op s u) (range : s.RangeInv) (h : s.MemoryInv) : u.MemoryInv := by
  obtain ⟨spaces, table⟩ := State.memoryInv_iff.mp h
  exact State.memoryInv_iff.mpr ⟨e.spacesInv range spaces, e.table_rising table⟩

/-- However a command ends, it keeps the memory. -/
theorem Ending.memoryInv (e : Ending op s t) (range : s.RangeInv) (h : s.MemoryInv) : t.MemoryInv := by
  cases e with
  | refused => exact h
  | completed _ u r0 r1 r2 r3 effect => exact effect.memoryInv range h
  | endOfData => exact h
  | fault _ c info =>
    obtain ⟨spaces, table⟩ := State.memoryInv_iff.mp h
    refine State.memoryInv_iff.mpr ⟨spaces.of_eq (fun sp => ?_) (by simp), by simpa using table⟩
    cases sp <;> simp [State.mem]

end Effect

/-- Settles O55, from what each ending of a command keeps. -/
theorem stepKeepsMemory : Obligations.StepKeepsMemory := by
  intro s t range memory h
  have presented (rest : List Input) : { s with inputs := rest }.RangeInv := { range with }
  obtain ⟨-, rfl⟩ | ⟨rest, -, rfl⟩ | ⟨rest, r, -, rfl⟩ | ⟨w, rest, -, ending⟩ := step_next h
  · exact memory
  · exact (Effect.reset _).memoryInv (presented rest) memory
  · exact memory
  · exact ending.memoryInv (presented rest) memory

end Sys2Proof.Machine


/-! ## Encoding: command words, opcode bytes and the tables of numbers (30_encoding.md)

An instruction is laid out as the command word of its number and lanes, or as its opcode byte. From the two
inverse laws between `commandOf` and `encode`: decoding what was encoded gives it back (O2), and a word is read
by its number and its listed lanes alone (O3). With them the sample words (O1) and the numbers that words and
registers show (O60). -/

namespace Sys2Proof.Machine

/-! ### The two layouts -/

/-- How each instruction is laid out: a command as the word of a number and four lanes that spell it (rules
R80, R83), an opcode byte as itself (rule R95). -/
theorem encode_cases (i : Instr) :
    (∃ op a0 a1 a2 a3, encode i = .command (commandWord op a0 a1 a2 a3) ∧
      commandOf op.toNat a0 a1 a2 a3 = some i) ∨
    (∃ b, encode i = .opcode b ∧ decodeOpcode b = i) := by
  cases i with
  | nop | reset | sessionReset | rdreg | wrreg | memRead | memWrite
  | varintLen32 | varintLen64 | varintEnc32 | varintEnc64 | varintParse32 | varintParse64 | parseByte
  | rhInit | rhHash | rhUpdate
  | bhInit | bhAddThrough | bhFirstMatch | bhNextMatch | bhFindBest | bmClear
  | acConfig | acReset | acEncode | acDecode
  | ctDefault | ctWrite | ctRead | ctValidate | imFirst | imSecond
  | serStart | serWindow | serAdd | serRun | serCopy | serChecksum | serOutput | serFinish
  | outClear => exact .inl ⟨_, _, _, _, _, rfl, rfl⟩
  | _ => exact .inr ⟨_, rfl, rfl⟩

/-- Settles O2: a command word put together is read by its number and its lanes, an opcode byte by its row. -/
theorem decodeEncodeAgree : Obligations.DecodeEncodeAgree := by
  intro i
  obtain ⟨op, a0, a1, a2, a3, laidOut, spelled⟩ | ⟨b, laidOut, spelled⟩ := encode_cases i
  · rw [laidOut]
    change decodeCommand _ = _
    rw [decodeCommand_commandWord, spelled]
  · rw [laidOut]
    exact congrArg Except.ok spelled

/-! ### The command map -/

/-- The numbers outside the map are those that rule R84 lists as undefined. -/
theorem commandOf_eq_none_iff (n : Nat) (a0 a1 a2 a3 : Field) :
    commandOf n a0 a1 a2 a3 = none ↔
      (0x07 ≤ n ∧ n ≤ 0x0F) ∨ (0x17 ≤ n ∧ n ≤ 0x1F) ∨ (0x23 ≤ n ∧ n ≤ 0x2F) ∨ (0x36 ≤ n ∧ n ≤ 0x3F) ∨
        (0x44 ≤ n ∧ n ≤ 0x4F) ∨ (0x56 ≤ n ∧ n ≤ 0x5F) ∨ 0x69 ≤ n := by
  unfold commandOf
  split
  case h_43 =>
    simp only [imp_false, true_iff] at *
    omega
  all_goals simp

/-- The lane `a` of number `k` where the command of number `op` lists it, else zero (rule R85). -/
def listedLane (op k : Nat) (a : Field) : Field := if k ≤ listedLanes op then a else 0

/-- A command is the same whatever its unlisted lanes hold (rule R85). -/
theorem commandOf_listedLane (n : Nat) (a0 a1 a2 a3 : Field) :
    commandOf n (listedLane n 1 a0) (listedLane n 2 a1) (listedLane n 3 a2) (listedLane n 4 a3) =
      commandOf n a0 a1 a2 a3 := by
  unfold commandOf
  split <;> simp [listedLane, listedLanes]

/-- The encoding of a command is its number with its listed lanes, the others zero (rules R83, R85). -/
theorem encode_of_commandOf {n : Nat} {a0 a1 a2 a3 : Field} {i : Instr}
    (spelled : commandOf n a0 a1 a2 a3 = some i) :
    encode i = .command (commandWord (byte n) (listedLane n 1 a0) (listedLane n 2 a1) (listedLane n 3 a2)
      (listedLane n 4 a3)) := by
  unfold commandOf at spelled
  split at spelled <;> cases spelled <;> simp [encode, listedLane, listedLanes]

/-! ### What decoding reads -/

/-- A word decodes to what the map names for its number and its lanes, if its reserved field is zero (rules
R83, R84). -/
theorem decodeCommand_eq_ok_iff {w : CommandWord} {i : Instr} :
    decodeCommand w = .ok i ↔
      rsvBits w = 0 ∧ commandOf (opBits w).toNat (lane w 1) (lane w 2) (lane w 3) (lane w 4) = some i := by
  unfold decodeCommand
  split_ifs with reserved
  · exact iff_of_false (by simp) fun spelled => reserved spelled.1
  · rw [not_not] at reserved
    cases commandOf (opBits w).toNat (lane w 1) (lane w 2) (lane w 3) (lane w 4) <;> simp [reserved]

theorem exists_decodeCommand_iff (w : CommandWord) :
    (∃ i, decodeCommand w = .ok i) ↔
      rsvBits w = 0 ∧ ¬ commandOf (opBits w).toNat (lane w 1) (lane w 2) (lane w 3) (lane w 4) = none := by
  simp only [decodeCommand_eq_ok_iff, exists_and_left, Option.eq_none_iff_forall_ne_some, ne_eq, not_forall,
    not_not]

theorem toNat_opBits (w : CommandWord) : (opBits w).toNat = w.toNat % 256 := by
  rw [opBits, BitVec.extractLsb'_toNat, Nat.shiftRight_zero]

theorem rsvBits_eq_zero_iff (w : CommandWord) : rsvBits w = 0 ↔ w.toNat / 2 ^ 8 % 2 ^ 56 = 0 := by
  rw [← BitVec.toNat_inj, rsvBits, BitVec.extractLsb'_toNat, Nat.shiftRight_eq_div_pow]
  rfl

/-- The encoding of a decoded word is that word with its unlisted lanes zero (rule R85). -/
theorem encode_decodeCommand {w : CommandWord} {i : Instr} (decoded : decodeCommand w = .ok i) :
    ∃ v, encode i = .command v ∧ opBits v = opBits w ∧ rsvBits v = 0 ∧
      ∀ k, 1 ≤ k → k ≤ 4 → lane v k = listedLane (opBits w).toNat k (lane w k) := by
  obtain ⟨-, spelled⟩ := decodeCommand_eq_ok_iff.mp decoded
  refine ⟨_, encode_of_commandOf spelled, by simp, rsvBits_commandWord .., fun k atLeast atMost => ?_⟩
  obtain ⟨lane1, lane2, lane3, lane4⟩ := lane_commandWord (byte (opBits w).toNat)
    (listedLane (opBits w).toNat 1 (lane w 1)) (listedLane (opBits w).toNat 2 (lane w 2))
    (listedLane (opBits w).toNat 3 (lane w 3)) (listedLane (opBits w).toNat 4 (lane w 4))
  interval_cases k
  · exact lane1
  · exact lane2
  · exact lane3
  · exact lane4

/-- Words that agree in number, reserved field and listed lanes decode alike (rules R83, R85). -/
theorem decodeCommand_congr {w w' : CommandWord} (op : opBits w = opBits w') (rsv : rsvBits w = rsvBits w')
    (lanes : ∀ k, 1 ≤ k → k ≤ listedLanes (opBits w).toNat → lane w k = lane w' k) :
    decodeCommand w = decodeCommand w' := by
  have listed (k : Nat) (atLeast : 1 ≤ k) :
      listedLane (opBits w).toNat k (lane w k) = listedLane (opBits w).toNat k (lane w' k) :=
    if_ctx_congr Iff.rfl (lanes k atLeast) fun _ => rfl
  have spelled :
      commandOf (opBits w).toNat (lane w 1) (lane w 2) (lane w 3) (lane w 4) =
        commandOf (opBits w).toNat (lane w' 1) (lane w' 2) (lane w' 3) (lane w' 4) := by
    rw [← commandOf_listedLane, listed 1 (by decide), listed 2 (by decide), listed 3 (by decide),
      listed 4 (by decide), commandOf_listedLane]
  simp only [decodeCommand, ← rsv, ← op, spelled]

/-- Settles O3, from the command map and the lanes that decoding reads. -/
theorem decodedWordsAreTheirEncodings : Obligations.DecodedWordsAreTheirEncodings := by
  refine ⟨fun w => ?_, fun w i => encode_decodeCommand, fun w w' => decodeCommand_congr⟩
  rw [exists_decodeCommand_iff, rsvBits_eq_zero_iff, commandOf_eq_none_iff, toNat_opBits]

/-- A word is read off the number and the lanes it is put together from. -/
theorem decodeCommand_of_eq {w : CommandWord} (op : Byte) (a0 a1 a2 a3 : Field) {i : Instr}
    (word : w = commandWord op a0 a1 a2 a3) (spelled : commandOf op.toNat a0 a1 a2 a3 = some i) :
    decodeCommand w = .ok i := by
  rw [word, decodeCommand_commandWord, spelled]

/-- Settles O1: each word is put together from its number and its lanes, and the map names its command. -/
theorem sampleWordsDecode : Obligations.SampleWordsDecode :=
  ⟨decodeCommand_of_eq 0x00 0 0 0 0 (by decide) rfl,
    decodeCommand_of_eq 0x06 1 7 0x5A 0 (by decide) rfl,
    decodeCommand_of_eq 0x13 0x80000000 0 0 0 (by decide) rfl,
    decodeCommand_of_eq 0x22 478090 0x61 0x65 0 (by decide) rfl,
    decodeCommand_of_eq 0x34 478090 2 0 0 (by decide) rfl,
    decodeCommand_of_eq 0x42 167 255 0 0 (by decide) rfl,
    decodeCommand_of_eq 0x55 3 3 5 1 (by decide) rfl,
    decodeCommand_of_eq 0x64 0 28 0 0 (by decide) rfl,
    rfl, rfl, rfl, rfl⟩

/-! ### The tables of numbers -/

/-- The status code fills bits 3:0 of a response word, and the rest of its lowest lane is zero (rule R81). -/
theorem Response.word_status (r : Response) :
    r.word.extractLsb' 0 4 = BitVec.ofNat 4 r.status.code ∧ r.word.extractLsb' 4 60 = 0 := by
  have low {start len : Nat} (inside : start + len ≤ 64) :
      r.word.extractLsb' start len = (BitVec.ofNat 64 r.status.code).extractLsb' start len :=
    BitVec.extractLsb'_append_eq_of_add_le inside
  rw [low (by decide), low (by decide)]
  cases r.status <;> exact ⟨rfl, rfl⟩

/-- The status code as the lowest byte of a word: a response word has the lanes of a command word. -/
theorem Response.word_eq_commandWord (r : Response) :
    r.word = commandWord (byte r.status.code) r.r0 r.r1 r.r2 r.r3 := by
  have low : BitVec.ofNat 64 r.status.code = (0 : BitVec 56) ++ byte r.status.code := by
    cases r.status <;> rfl
  rw [Response.word, low]
  rfl

/-- Settles O60: the tables by evaluation, the result fields as the lanes of the word. -/
theorem codesOfTheTables : Obligations.CodesOfTheTables := by
  refine ⟨rfl, rfl, rfl, rfl, fun r => ?_, rfl, rfl⟩
  obtain ⟨status, reserved⟩ := r.word_status
  have results := lane_commandWord (byte r.status.code) r.r0 r.r1 r.r2 r.r3
  rw [← r.word_eq_commandWord] at results
  exact ⟨status, reserved, results⟩

end Sys2Proof.Machine

/-! ## Opcode bytes: the default table, and what a turn of the reader does with each row (30_encoding.md)

A part of a group is read, or the group stops; the shape of a whole turn follows part by part (O49). Where the
parts are there, one equation per part says what was read and where the reader goes on; with the rows of the
default table (O36) they give the three groups of opcode bytes (O50, O51, O52). -/

namespace Sys2Proof.Machine

/-! ### The default table -/

theorem defaultEntry_run : defaultEntry 0 = .of (.run 0) .absent := rfl

theorem defaultEntry_add {k : Nat} (le : k ≤ 17) : defaultEntry (1 + k) = .of (.add k) .absent := by
  unfold defaultEntry
  rw [if_neg (by omega), if_pos (by omega), Nat.add_sub_cancel_left]

/-- A COPY row, by its place `i` among the 16 of its mode (rule R98). -/
theorem defaultEntry_copy {m i : Nat} (mode : m ≤ 8) (place : i < 16) :
    defaultEntry (19 + 16 * m + i) = .of (.copy (if i = 0 then 0 else i + 3) m) .absent := by
  unfold defaultEntry
  rw [if_neg (by omega), if_neg (by omega), if_pos (by omega),
    show (19 + 16 * m + i - 19) % 16 = i by omega, show (19 + 16 * m + i - 19) / 16 = m by omega]

theorem defaultEntry_copy_unsized {m : Nat} (mode : m ≤ 8) :
    defaultEntry (19 + 16 * m) = .of (.copy 0 m) .absent :=
  defaultEntry_copy mode (i := 0) (by omega)

theorem defaultEntry_copy_sized {m k : Nat} (mode : m ≤ 8) (least : 4 ≤ k) (most : k ≤ 18) :
    defaultEntry (19 + 16 * m + (k - 3)) = .of (.copy k m) .absent := by
  rw [defaultEntry_copy mode (by omega), if_neg (by omega), Nat.sub_add_cancel (by omega)]

theorem defaultEntry_add_copy {m a c : Nat} (mode : m ≤ 5) (aLeast : 1 ≤ a) (aMost : a ≤ 4)
    (cLeast : 4 ≤ c) (cMost : c ≤ 6) :
    defaultEntry (163 + 12 * m + 3 * (a - 1) + (c - 4)) = .of (.add a) (.copy c m) := by
  unfold defaultEntry
  rw [if_neg (by omega), if_neg (by omega), if_neg (by omega), if_pos (by omega)]
  congr 2 <;> omega

theorem defaultEntry_add_copyFour {m a : Nat} (least : 6 ≤ m) (most : m ≤ 8) (aLeast : 1 ≤ a) (aMost : a ≤ 4) :
    defaultEntry (235 + 4 * (m - 6) + (a - 1)) = .of (.add a) (.copy 4 m) := by
  unfold defaultEntry
  rw [if_neg (by omega), if_neg (by omega), if_neg (by omega), if_neg (by omega), if_pos (by omega)]
  congr 2 <;> omega

theorem defaultEntry_copyFour_add (m : Nat) : defaultEntry (247 + m) = .of (.copy 4 m) (.add 1) := by
  unfold defaultEntry
  rw [if_neg (by omega), if_neg (by omega), if_neg (by omega), if_neg (by omega), if_neg (by omega),
    Nat.add_sub_cancel_left]

/-- Settles O36, family by family. -/
theorem defaultTable : Obligations.DefaultTable :=
  ⟨defaultEntry_run, fun _ => defaultEntry_add,
    fun _ mode => ⟨defaultEntry_copy_unsized mode, fun _ most least => defaultEntry_copy_sized mode least most⟩,
    fun _ mode _ aMost aLeast _ cMost cLeast => defaultEntry_add_copy mode aLeast aMost cLeast cMost,
    fun _ most least _ aMost aLeast => defaultEntry_add_copyFour least most aLeast aMost,
    fun m _ => defaultEntry_copyFour_add m⟩

/-! ### A part of a group is read, or the group stops -/

/-- Either the part was read and its value satisfies `P`, or the group stops for a reason a turn records. -/
def ReadStep.Holds {α : Type} (r : ReadStep α) (P : α → Prop) : Prop :=
  match r with
  | .ok a => P a
  | .stop w => w ≠ .ok ∧ w ≠ .start

theorem ReadStep.Holds.bind {α β : Type} {r : ReadStep α} {f : α → ReadStep β} {P : α → Prop} {Q : β → Prop}
    (part : r.Holds P) (rest : ∀ a, P a → (f a).Holds Q) : (r.bind f).Holds Q :=
  match r, part with
  | .ok a, read => rest a read
  | .stop _, stopped => stopped

section Parts

variable {s : State} {p : ReadPos}

/-- An operand moves the reader on in INST or leaves it there (rule R95). -/
theorem State.instPos_le_setSinkPos {sp : Space} {q : Nat} (le : s.sinkPos sp p ≤ q) :
    p.instPos ≤ (s.setSinkPos sp p q).instPos := by
  unfold State.sinkPos at le
  unfold State.setSinkPos
  split_ifs at le ⊢
  exacts [le, le_rfl, le_rfl]

theorem State.readSize_holds (h : Half) : (s.readSize h p).Holds fun r => p.instPos ≤ r.2.instPos := by
  unfold State.readSize
  split
  · exact le_rfl
  · split
    next parsed => exact (varintParse_ok parsed).1.le
    next => exact ⟨nofun, nofun⟩
    next => exact ⟨nofun, nofun⟩

theorem State.readData_holds (n : Nat) : (s.readData n p).Holds fun r => p.instPos ≤ r.2.instPos := by
  unfold State.readData
  dsimp only
  split
  · exact State.instPos_le_setSinkPos (Nat.le_add_right _ _)
  · exact ⟨nofun, nofun⟩

theorem State.readAddress_holds (mode : Nat) :
    (s.readAddress mode p).Holds fun r => p.instPos ≤ r.2.instPos := by
  unfold State.readAddress
  split
  next decoded =>
    obtain ⟨-, -, -, moved, -⟩ := AddrCache.decode_ok decoded
    exact State.instPos_le_setSinkPos moved.le
  next => exact ⟨nofun, nofun⟩
  next => exact ⟨nofun, nofun⟩

theorem State.readOperands_holds (h : Half) (size : Nat) :
    (s.readOperands h size p).Holds fun r => p.instPos ≤ r.2.instPos := by
  unfold State.readOperands
  split_ifs
  · exact (State.readData_holds size).bind fun _ le => le
  · exact (State.readData_holds 1).bind fun _ le => le
  · exact (State.readAddress_holds h.mode.toNat).bind fun _ le => le
  · exact ⟨nofun, nofun⟩

theorem State.readHalf_holds (h : Half) :
    (s.readHalf h p).Holds fun r => p.instPos ≤ r.2.instPos ∧ r.1.length ≤ 1 := by
  unfold State.readHalf
  split_ifs
  · exact ⟨le_rfl, Nat.zero_le 1⟩
  · exact (State.readSize_holds h).bind fun size sized =>
      (State.readOperands_holds h size.1).bind fun _ le => ⟨sized.trans le, le_rfl⟩

theorem State.readEntry_holds (e : CtEntry) :
    (s.readEntry e p).Holds fun r => p.instPos ≤ r.2.instPos ∧ r.1.length ≤ 2 := by
  refine (State.readHalf_holds e.first).bind fun first ⟨pos1, length1⟩ =>
    (State.readHalf_holds e.second).bind fun second ⟨pos2, length2⟩ => ⟨pos1.trans pos2, ?_⟩
  rw [List.length_append]
  omega

end Parts

/-- Settles O49: a turn advances over the group that `readEntry` reads, or records why it stopped. -/
theorem opcodeBytesChangeOnlyTheReader : Obligations.OpcodeBytesChangeOnlyTheReader := by
  intro s b
  refine ⟨s.readerAfter b, exec_decodeOpcode b s, ?_⟩
  have group := State.readEntry_holds (s := s) (p := s.reader.afterOpcode) (s.ctEntry b.toNat)
  unfold State.readerAfter
  split
  next ds p read =>
    rw [read] at group
    exact .inl ⟨rfl, group.1, ds, rfl, group.2⟩
  next w stopped =>
    rw [stopped] at group
    exact .inr ⟨group.1, group.2, rfl⟩

/-! ### What each part reads where it is there -/

theorem toNat_byte {n : Nat} (lt : n < 256) : (byte n).toNat = n := Nat.mod_eq_of_lt lt

theorem State.len_sink_data (s : State) :
    s.len (s.sink .data) = if s.interleaved then s.instLen else s.dataLen := by
  unfold State.sink
  split <;> rfl

theorem State.len_sink_addr (s : State) :
    s.len (s.sink .addr) = if s.interleaved then s.instLen else s.addrLen := by
  unfold State.sink
  split <;> rfl

theorem State.setSinkPos_data (s : State) (p : ReadPos) (q : Nat) :
    s.setSinkPos .data p q =
      { p with instPos := if s.interleaved then q else p.instPos,
               dataPos := if s.interleaved then p.dataPos else q } := by
  unfold State.setSinkPos
  split <;> rfl

theorem State.setSinkPos_addr (s : State) (p : ReadPos) (q : Nat) :
    s.setSinkPos .addr p q =
      { p with instPos := if s.interleaved then q else p.instPos,
               addrPos := if s.interleaved then p.addrPos else q } := by
  unfold State.setSinkPos
  split <;> rfl

section Reading

variable {s : State} {h : Half} {p q r : ReadPos} {n m : Nat}

theorem State.readSize_of_sized (size : h.size = byte n) (least : 1 ≤ n) (most : n < 256) :
    s.readSize h p = .ok (n, p) := by
  have nonzero : byte n ≠ 0 := by
    rw [ne_eq, ← BitVec.toNat_inj, toNat_byte most]
    exact Nat.one_le_iff_ne_zero.mp least
  rw [State.readSize, size, if_pos nonzero, toNat_byte most]

theorem State.readSize_of_unsized {i : Nat} (size : h.size = 0)
    (parsed : varintParse .w32 (s.readByte .inst) p.instPos s.instLen = .ok n i) :
    s.readSize h p = .ok (n, { p with instPos := i }) := by
  rw [State.readSize, if_neg (not_not.mpr size), parsed]

theorem State.readData_of_room (room : s.sinkPos .data p + n ≤ s.len (s.sink .data)) :
    s.readData n p =
      .ok (s.readBytes (s.sink .data) (s.sinkPos .data p) n, s.setSinkPos .data p (s.sinkPos .data p + n)) :=
  if_pos room

theorem State.readOperands_add (type : h.inst = instAdd) :
    s.readOperands h n p = (s.readData n p).bind fun r => .ok (.add n r.1, r.2) :=
  if_pos type

theorem State.readOperands_run (type : h.inst = instRun) :
    s.readOperands h n p = (s.readData 1 p).bind fun r => .ok (.run n (r.1.headD 0), r.2) :=
  (if_neg (type ▸ by decide)).trans (if_pos type)

theorem State.readOperands_copy (type : h.inst = instCopy) (mode : h.mode.toNat = m) :
    s.readOperands h n p = (s.readAddress m p).bind fun r => .ok (.copy n m r.1, r.2) :=
  mode ▸ (if_neg (type ▸ by decide)).trans ((if_neg (type ▸ by decide)).trans (if_pos type))

theorem State.readHalf_of_operands {d : Delta} (present : h.inst ≠ instNoop)
    (size : s.readSize h p = .ok (n, q)) (operands : s.readOperands h n q = .ok (d, r)) :
    s.readHalf h p = .ok ([d], { r with produced := r.produced + n }) := by
  rw [State.readHalf, if_neg present, size]
  change (s.readOperands h n q).bind _ = _
  rw [operands]
  rfl

/-- A half whose operands are the next `k` bytes of the data sink (rules R95, R103). -/
theorem State.readHalf_data {k : Nat} {d : List Byte → Delta} (present : h.inst ≠ instNoop)
    (size : s.readSize h p = .ok (n, q))
    (operands : s.readOperands h n q = (s.readData k q).bind fun r => .ok (d r.1, r.2))
    (room : s.sinkPos .data q + k ≤ s.len (s.sink .data)) :
    s.readHalf h p =
      .ok ([d (s.readBytes (s.sink .data) (s.sinkPos .data q) k)],
        { q with instPos := if s.interleaved then q.instPos + k else q.instPos,
                 dataPos := if s.interleaved then q.dataPos else q.dataPos + k,
                 produced := q.produced + n }) := by
  rw [State.readData_of_room room] at operands
  rw [State.readHalf_of_operands present size operands, State.setSinkPos_data, State.sinkPos]
  split <;> rfl

/-- An ADD takes its literal bytes from the data sink (rule R103). -/
theorem State.readHalf_add {k : Nat} (size : s.readSize (.add k) p = .ok (n, q))
    (room : s.sinkPos .data q + n ≤ s.len (s.sink .data)) :
    s.readHalf (.add k) p =
      .ok ([.add n (s.readBytes (s.sink .data) (s.sinkPos .data q) n)],
        { q with instPos := if s.interleaved then q.instPos + n else q.instPos,
                 dataPos := if s.interleaved then q.dataPos else q.dataPos + n,
                 produced := q.produced + n }) :=
  State.readHalf_data (show instAdd ≠ instNoop by decide) size (State.readOperands_add rfl) room

/-- A RUN takes its byte from the data sink (rule R103). -/
theorem State.readHalf_run {k : Nat} (size : s.readSize (.run k) p = .ok (n, q))
    (room : s.sinkPos .data q + 1 ≤ s.len (s.sink .data)) :
    s.readHalf (.run k) p =
      .ok ([.run n (s.readByte (s.sink .data) (s.sinkPos .data q))],
        { q with instPos := if s.interleaved then q.instPos + 1 else q.instPos,
                 dataPos := if s.interleaved then q.dataPos else q.dataPos + 1,
                 produced := q.produced + n }) :=
  State.readHalf_data (d := fun bytes => .run n (bytes.headD 0)) (show instRun ≠ instNoop by decide) size
    (State.readOperands_run rfl) room

/-- A COPY takes its address field from the address sink (rules R102, R170, R177). -/
theorem State.readHalf_copy {k addr e : Nat} (mode : m < 256) (size : s.readSize (.copy k m) p = .ok (n, q))
    (decoded : q.cache.decode (s.readByte (s.sink .addr)) (s.sinkPos .addr q) (s.len (s.sink .addr))
      ((s.winSrcSize + q.produced : Nat) : Int) m = .ok addr e) :
    s.readHalf (.copy k m) p =
      .ok ([.copy n m addr],
        { q with instPos := if s.interleaved then e else q.instPos,
                 addrPos := if s.interleaved then q.addrPos else e,
                 cache := q.cache.update addr, produced := q.produced + n }) := by
  have operands : s.readOperands (.copy k m) n q =
      .ok (.copy n m addr, { s.setSinkPos .addr q e with cache := q.cache.update addr }) := by
    rw [State.readOperands_copy rfl (toNat_byte mode), State.readAddress, decoded]
    rfl
  rw [State.readHalf_of_operands (show instCopy ≠ instNoop by decide) size operands, State.setSinkPos_addr]

/-- The group of an entry with one half present is that half. -/
theorem State.readEntry_single {ds : List Delta} (half : s.readHalf h p = .ok (ds, q)) :
    s.readEntry (.of h .absent) p = .ok (ds, q) := by
  change (s.readHalf h p).bind _ = _
  rw [half]
  exact congrArg (fun l => ReadStep.ok (l, q)) (List.append_nil ds)

/-- The group of a compound entry is its halves in order. -/
theorem State.readEntry_pair {h' : Half} {ds ds' : List Delta} (first : s.readHalf h p = .ok (ds, q))
    (second : s.readHalf h' q = .ok (ds', r)) : s.readEntry (.of h h') p = .ok (ds ++ ds', r) := by
  change (s.readHalf h p).bind _ = _
  rw [first]
  change (s.readHalf h' q).bind _ = _
  rw [second]
  rfl

/-- An opcode byte whose group is there moves the reader over it. -/
theorem exec_of_readEntry {op : Nat} {e : CtEntry} {ds : List Delta} (lt : op < 256)
    (entry : s.ctEntry op = e) (read : s.readEntry e s.reader.afterOpcode = .ok (ds, p)) :
    exec (decodeOpcode (byte op)) s = .next { s with reader := s.reader.advance ds p } := by
  rw [exec_decodeOpcode, readOpcode, State.readerAfter, toNat_byte lt, entry, read]

end Reading

/-- Settles O50, from the rows of RUN and ADD and the data sink. -/
theorem runAndAddOpcodes : Obligations.RunAndAddOpcodes := by
  intro s table
  dsimp only
  refine ⟨fun n q parsed => ⟨fun room => ?run, fun room => ?add⟩, fun k least most room => ?sized⟩
  all_goals rw [← State.len_sink_data] at room
  case run =>
    have size := State.readSize_of_unsized (h := .run 0) (p := s.reader.afterOpcode) rfl parsed
    exact exec_of_readEntry (by decide) ((table _).trans defaultEntry_run)
      (State.readEntry_single (State.readHalf_run size room))
  case add =>
    have size := State.readSize_of_unsized (h := .add 0) (p := s.reader.afterOpcode) rfl parsed
    exact exec_of_readEntry (by decide) ((table _).trans (defaultEntry_add (Nat.zero_le 17)))
      (State.readEntry_single (State.readHalf_add size room))
  case sized =>
    have size := State.readSize_of_sized (s := s) (h := .add k) (p := s.reader.afterOpcode) rfl least (by omega)
    exact exec_of_readEntry (by omega) ((table _).trans (defaultEntry_add most))
      (State.readEntry_single (State.readHalf_add size room))

/-- Settles O51, from the rows of COPY and the address sink. -/
theorem copyOpcodes : Obligations.CopyOpcodes := by
  intro s m table mode
  dsimp only
  rw [← State.len_sink_addr]
  refine ⟨fun n q a e parsed decoded => ?unsized, fun k a e least most decoded => ?sized⟩
  case unsized =>
    have size := State.readSize_of_unsized (h := .copy 0 m) (p := s.reader.afterOpcode) rfl parsed
    exact exec_of_readEntry (by omega) ((table _).trans (defaultEntry_copy_unsized mode))
      (State.readEntry_single (State.readHalf_copy (by omega) size decoded))
  case sized =>
    have size :=
      State.readSize_of_sized (s := s) (h := .copy k m) (p := s.reader.afterOpcode) rfl (by omega) (by omega)
    exact exec_of_readEntry (by omega) ((table _).trans (defaultEntry_copy_sized mode least most))
      (State.readEntry_single (State.readHalf_copy (by omega) size decoded))

/-- Settles O52, half after half: each half starts where the one before it ended. -/
theorem compoundOpcodes : Obligations.CompoundOpcodes := by
  intro s op m a c addr e table
  dsimp only
  have add (least : 1 ≤ a) (most : a < 256) (p : ReadPos) :=
    State.readHalf_add (s := s) (p := p) (State.readSize_of_sized (h := .add a) rfl least most)
  have copy (mode : m < 256) (least : 1 ≤ c) (most : c < 256) (p : ReadPos) :=
    State.readHalf_copy (s := s) (p := p) (addr := addr) (e := e) mode
      (State.readSize_of_sized (h := .copy c m) rfl least most)
  refine ⟨fun aLeast aMost rows => ?addCopy, fun mode aOne cFour opRow => ?copyAdd⟩
  case addCopy =>
    have entry : s.ctEntry op = .of (.add a) (.copy c m) := by
      obtain ⟨mode, cLeast, cMost, rfl⟩ | ⟨least, most, rfl, rfl⟩ := rows
      · exact (table _).trans (defaultEntry_add_copy mode aLeast aMost cLeast cMost)
      · exact (table _).trans (defaultEntry_add_copyFour least most aLeast aMost)
    replace add := add aLeast (by omega)
    replace copy := copy (by omega) (by omega) (by omega)
    constructor <;> intro format room decoded
    all_goals
      simp only [State.sink, State.sinkPos, format] at add copy
      exact exec_of_readEntry (by omega) entry (State.readEntry_pair (add _ room) (copy _ decoded))
  case copyAdd =>
    subst aOne cFour opRow
    have entry := (table _).trans (defaultEntry_copyFour_add m)
    replace add := add (by decide) (by decide)
    replace copy := copy (by omega) (by decide) (by decide)
    constructor <;> intro format decoded room
    all_goals
      simp only [State.sink, State.sinkPos, format] at add copy
      exact exec_of_readEntry (by omega) entry (State.readEntry_pair (copy _ decoded) (add _ room))

end Sys2Proof.Machine

/-! ## Varints: the digits, their parser, and the commands of the varint unit (40_varint.md)

A value is read digit after digit: what stands before the last `m` digits is `v / 128 ^ m`, and each digit
takes it one step on. That step gives the value of an encoding (O17) and what the parser makes of its bytes;
with what the parser keeps from turn to turn it gives the round trip (O19). The commands answer what these
functions answer (O18, O20). -/

namespace Sys2Proof.Machine

/-! ### Length -/

theorem varintLengthFrom_eq_log {turns v : Nat} (enough : v ≤ turns) :
    varintLengthFrom turns v = Nat.log 128 v + 1 := by
  induction turns generalizing v with
  | zero =>
    obtain rfl := Nat.le_zero.mp enough
    simp [varintLengthFrom]
  | succ turns ih =>
    unfold varintLengthFrom
    split_ifs with oneDigit
    · rw [Nat.log_of_lt oneDigit]
    · rw [ih (by omega), Nat.log_of_one_lt_of_le (by decide) (not_lt.mp oneDigit)]

theorem varintLength_eq_log (v : Nat) : varintLength v = Nat.log 128 v + 1 :=
  varintLengthFrom_eq_log le_rfl

theorem lt_pow_varintLength (v : Nat) : v < 128 ^ varintLength v := by
  rw [varintLength_eq_log]
  exact Nat.lt_pow_succ_log_self (by decide) v

/-- No digit of a longer varint could be left out: the first one is not zero. -/
theorem pow_varintLength_le {v : Nat} (long : 2 ≤ varintLength v) : 128 ^ (varintLength v - 1) ≤ v := by
  rw [varintLength_eq_log] at long ⊢
  have : v ≠ 0 := by
    rintro rfl
    simp at long
  exact Nat.pow_log_le_self 128 this

/-- A value of the width has no more digits than its parser accepts (rule R121). -/
theorem varintLength_le_maxDigits {width : VarWidth} {v : Nat} (le : v ≤ width.max) :
    varintLength v ≤ width.maxDigits := by
  rw [varintLength_eq_log, Nat.succ_le_iff]
  refine Nat.log_lt_of_lt_pow' (by cases width <;> decide) (le.trans_lt ?_)
  cases width <;> decide

/-! ### Encode -/

@[simp] theorem length_varintEncode (v : Nat) : (varintEncode v).length = varintLength v := by
  simp [varintEncode]

theorem getElem?_varintEncode {v i : Nat} (lt : i < varintLength v) :
    (varintEncode v)[i]? = some (varintDigit v (varintLength v) i) := by
  simp [varintEncode, lt]

/-- A digit is told by how many digits follow it. -/
theorem varintDigit_succ (v n i : Nat) : varintDigit v (n + 1) (i + 1) = varintDigit v n i := by
  unfold varintDigit
  rw [show n + 1 - 1 - (i + 1) = n - 1 - i by omega]
  simp only [show i + 1 < n + 1 - 1 ↔ i < n - 1 by omega]

/-- The digit that `m` others follow. -/
theorem toNat_varintDigit_zero (v m : Nat) :
    (varintDigit v (m + 1) 0).toNat = v / 128 ^ m % 128 + if 0 < m then 128 else 0 := by
  have : v / 128 ^ m % 128 < 128 := Nat.mod_lt _ (by decide)
  refine toNat_byte ?_
  simp only [Nat.add_sub_cancel, Nat.sub_zero]
  split_ifs <;> omega

/-- The last digit has bit 7 clear. -/
theorem varintDigit_last_lt (v : Nat) : (varintDigit v 1 0).toNat < 128 := by
  rw [toNat_varintDigit_zero v 0, if_neg (lt_irrefl 0)]
  omega

/-- A digit that others follow has bit 7 set. -/
theorem le_varintDigit_of_more (v m : Nat) : 128 ≤ (varintDigit v (m + 2) 0).toNat := by
  rw [toNat_varintDigit_zero v (m + 1), if_pos m.succ_pos]
  omega

/-- The one step of encoding and of parsing: the digit that `m` others follow takes the value before it to the
value up to it. -/
theorem div_pow_add_digit (v m : Nat) :
    v / 128 ^ (m + 1) * 128 + (varintDigit v (m + 1) 0).toNat % 128 = v / 128 ^ m := by
  have low : (varintDigit v (m + 1) 0).toNat % 128 = v / 128 ^ m % 128 := by
    rw [toNat_varintDigit_zero]
    split_ifs <;> omega
  rw [low, pow_succ, ← Nat.div_div_eq_div_mul, Nat.div_add_mod']

/-- The last `n` digits take the value before them to the whole value. -/
theorem foldl_varintDigit (v n : Nat) :
    ((List.range n).map (varintDigit v n)).foldl (fun acc d => acc * 128 + d.toNat % 128) (v / 128 ^ n) =
      v := by
  induction n with
  | zero => simp
  | succ n ih =>
    have tail : varintDigit v (n + 1) ∘ Nat.succ = varintDigit v n := funext (varintDigit_succ v n)
    rw [List.range_succ_eq_map, List.map_cons, List.map_map, tail, List.foldl_cons, div_pow_add_digit, ih]

/-- A digit in the words of rule R123: seven bits of the value, and bit 7 on all but the last. -/
theorem varintDigit_eq_bits (v n i : Nat) :
    varintDigit v n i =
      BitVec.ofNat 8 (((v >>> (7 * (n - 1 - i))) &&& 0x7F) ||| (if i < n - 1 then 0x80 else 0)) := by
  have bits (x : Nat) : x &&& 0x7F = x % 128 := Nat.and_two_pow_sub_one_eq_mod x 7
  have top {x : Nat} (lt : x < 128) : x ||| 0x80 = x + 128 := by
    rw [Nat.or_comm, ← Nat.two_pow_add_eq_or_of_lt (i := 7) lt 1, Nat.add_comm]
  have shift : v >>> (7 * (n - 1 - i)) = v / 128 ^ (n - 1 - i) := by
    rw [Nat.shiftRight_eq_div_pow, pow_mul]
    rfl
  rw [bits, shift, varintDigit]
  split_ifs
  · rw [top (Nat.mod_lt _ (by decide))]
  · rw [Nat.or_zero, Nat.add_zero]

/-- Settles O17: the length by the logarithm, the digits by their bits, the value digit after digit. -/
theorem varintDigits : Obligations.VarintDigits := by
  intro v
  refine ⟨?positive, lt_pow_varintLength v, pow_varintLength_le, length_varintEncode v,
    fun i lt => ?digit, ?value⟩
  case positive => simp [varintLength_eq_log]
  case digit => rw [getElem?_varintEncode lt, varintDigit_eq_bits]
  case value =>
    have fold := foldl_varintDigit v (varintLength v)
    rwa [Nat.div_eq_of_lt (lt_pow_varintLength v)] at fold

/-! ### Parse -/

section Parser

variable {mem mem' : Nat → Byte} {limit limit' max left result p v q : Nat}

theorem varintParseFrom_of_limit (limit_le : limit ≤ p) :
    varintParseFrom mem limit max (left + 1) result p = .endOfData :=
  if_pos limit_le

/-- A turn on a byte below the limit: its checks in the order of rule R124. -/
theorem varintParseFrom_of_lt (below : p < limit) :
    varintParseFrom mem limit max (left + 1) result p =
      if (mem p).toNat < 128 then .ok (result + (mem p).toNat % 128) (p + 1)
      else if left = 0 then .error
      else if max / 128 < result + (mem p).toNat % 128 then .error
      else varintParseFrom mem limit max left ((result + (mem p).toNat % 128) * 128) (p + 1) :=
  if_neg (not_le.mpr below)

/-- A byte with bit 7 clear is the last. -/
theorem varintParseFrom_of_last (below : p < limit) (last : (mem p).toNat < 128) :
    varintParseFrom mem limit max (left + 1) result p = .ok (result + (mem p).toNat % 128) (p + 1) := by
  rw [varintParseFrom_of_lt below, if_pos last]

/-- After a byte with bit 7 set the loop goes on, where digits may still be read and the value so far has room
for one more. -/
theorem varintParseFrom_of_more (below : p < limit) (more : 128 ≤ (mem p).toNat) (left_pos : 0 < left)
    (le : result + (mem p).toNat % 128 ≤ max / 128) :
    varintParseFrom mem limit max (left + 1) result p =
      varintParseFrom mem limit max left ((result + (mem p).toNat % 128) * 128) (p + 1) := by
  rw [varintParseFrom_of_lt below, if_neg (not_lt.mpr more), if_neg left_pos.ne', if_neg (not_lt.mpr le)]

/-- Where the last `m + 1` digits of `v` stand and the value so far is what stands before them, the parser
reads `v`, or the data end in them. -/
theorem varintParseFrom_digits {m : Nat} (le : v ≤ max) (enough : m < left)
    (digits : ∀ j ≤ m, mem (p + j) = varintDigit v (m + 1) j) :
    varintParseFrom mem limit max left (v / 128 ^ (m + 1) * 128) p =
      if p + (m + 1) ≤ limit then .ok v (p + (m + 1)) else .endOfData := by
  induction m generalizing left p with
  | zero =>
    obtain ⟨left, rfl⟩ := Nat.exists_eq_add_of_lt enough
    have head : mem p = varintDigit v 1 0 := digits 0 le_rfl
    have value := div_pow_add_digit v 0
    have last := varintDigit_last_lt v
    rw [← head] at value last
    rw [pow_zero, Nat.div_one] at value
    split_ifs with room
    · rw [varintParseFrom_of_last room last, value]
    · exact varintParseFrom_of_limit (not_lt.mp room)
  | succ m ih =>
    obtain ⟨left, rfl⟩ := Nat.exists_eq_add_of_lt enough
    have head : mem p = varintDigit v (m + 2) 0 := digits 0 (Nat.zero_le _)
    have value := div_pow_add_digit v (m + 1)
    have more := le_varintDigit_of_more v m
    rw [← head] at value more
    have grows : v / 128 ^ (m + 1) ≤ max / 128 := by
      rw [pow_succ', ← Nat.div_div_eq_div_mul]
      exact (Nat.div_le_self _ _).trans (Nat.div_le_div_right le)
    have tail : ∀ j ≤ m, mem (p + 1 + j) = varintDigit v (m + 1) j := fun j le => by
      rw [← varintDigit_succ, ← digits (j + 1) (by omega), Nat.add_right_comm, Nat.add_assoc]
    by_cases below : p < limit
    · rw [varintParseFrom_of_more below more (by omega) (value.trans_le grows), value, ih (by omega) tail,
        Nat.add_right_comm, Nat.add_assoc p]
    · rw [varintParseFrom_of_limit (not_lt.mp below), if_neg (by omega)]

/-- No value above the largest is returned: the check before each turn leaves room for one digit more. -/
theorem varintParseFrom_le_max (allOnes : max % 128 = 127) (room : result ≤ max / 128 * 128)
    (parsed : varintParseFrom mem limit max left result p = .ok v q) : v ≤ max := by
  induction left generalizing result p with
  | zero => cases parsed
  | succ left ih =>
    have below : p < limit := by
      by_contra limit_le
      rw [varintParseFrom_of_limit (not_lt.mp limit_le)] at parsed
      cases parsed
    rw [varintParseFrom_of_lt below] at parsed
    split_ifs at parsed
    · cases parsed
      omega
    · exact ih (by omega) parsed

/-- What the parser answers, with the cursor counted from `origin` moved to `origin'`. -/
def ParseResult.moved (origin origin' : Nat) : ParseResult → ParseResult
  | .ok v q => .ok v (origin' + (q - origin))
  | .endOfData => .endOfData
  | .error => .error

/-- The answer depends only on the bytes before the limit that the loop may still read, and on how many there
are. -/
theorem varintParseFrom_moved {origin origin' k : Nat} (same : limit' - origin' = limit - origin)
    (bytes : ∀ i < min (limit - origin) (k + left), mem' (origin' + i) = mem (origin + i)) :
    varintParseFrom mem' limit' max left result (origin' + k) =
      (varintParseFrom mem limit max left result (origin + k)).moved origin origin' := by
  induction left generalizing result k with
  | zero => rfl
  | succ left ih =>
    by_cases below : origin + k < limit
    · have byte : mem' (origin' + k) = mem (origin + k) := bytes k (by omega)
      have rest := ih (result := (result + (mem (origin + k)).toNat % 128) * 128) (k := k + 1)
        (by rwa [Nat.add_right_comm, Nat.add_assoc k])
      rw [varintParseFrom_of_lt below, varintParseFrom_of_lt (by omega), byte]
      split_ifs
      · simp [ParseResult.moved, Nat.add_assoc]
      · rfl
      · rfl
      · exact rest
    · rw [varintParseFrom_of_limit (not_lt.mp below), varintParseFrom_of_limit (by omega)]
      rfl

/-- More bytes do not change an answer that did not ask for them. -/
theorem varintParseFrom_extended (le : limit ≤ limit') (bytes : ∀ a, p ≤ a → a < limit → mem' a = mem a)
    (answered : varintParseFrom mem limit max left result p ≠ .endOfData) :
    varintParseFrom mem' limit' max left result p = varintParseFrom mem limit max left result p := by
  induction left generalizing result p with
  | zero => rfl
  | succ left ih =>
    have below : p < limit := by
      by_contra limit_le
      exact answered (varintParseFrom_of_limit (not_lt.mp limit_le))
    rw [varintParseFrom_of_lt below] at answered ⊢
    rw [varintParseFrom_of_lt (below.trans_le le), bytes p le_rfl below]
    split_ifs at answered ⊢
    · rfl
    · rfl
    · rfl
    · exact ih (fun a le => bytes a (by omega)) answered

/-- Where the data end, one digit zero completes the varint. -/
theorem varintParseFrom_completed (ended : varintParseFrom mem limit max left result p = .endOfData)
    (bytes : ∀ a, p ≤ a → a < limit → mem' a = mem a) (zero : ∀ a, limit ≤ a → mem' a = 0)
    (lt : p < limit') (le : limit < limit') :
    ∃ v q, varintParseFrom mem' limit' max left result p = .ok v q := by
  induction left generalizing result p with
  | zero => cases ended
  | succ left ih =>
    by_cases below : p < limit
    · rw [varintParseFrom_of_lt below] at ended
      rw [varintParseFrom_of_lt lt, bytes p le_rfl below]
      split_ifs at ended ⊢
      exact ih ended (fun a le => bytes a (by omega)) (by omega)
    · exact ⟨_, _, varintParseFrom_of_last lt (by rw [zero p (not_lt.mp below)]; decide)⟩

end Parser

section Parse

variable {width : VarWidth} {mem mem' : Nat → Byte} {cursor limit limit' v : Nat}

/-- What the parser makes of an encoding: its value, or the end of the data where a byte of it is missing. -/
theorem varintParse_encoded (le : v ≤ width.max)
    (bytes : ∀ i < varintLength v, (varintEncode v)[i]? = some (mem (cursor + i))) :
    varintParse width mem cursor limit =
      if cursor + varintLength v ≤ limit then .ok v (cursor + varintLength v) else .endOfData := by
  have fits := varintLength_le_maxDigits le
  have start : v / 128 ^ varintLength v * 128 = 0 := by
    rw [Nat.div_eq_of_lt (lt_pow_varintLength v), Nat.zero_mul]
  have digits : ∀ i < varintLength v, mem (cursor + i) = varintDigit v (varintLength v) i := fun i lt =>
    Option.some.inj ((bytes i lt).symm.trans (getElem?_varintEncode lt))
  obtain ⟨m, len⟩ : ∃ m, varintLength v = m + 1 := ⟨_, varintLength_eq_log v⟩
  rw [len] at fits start digits ⊢
  unfold varintParse
  rw [← start]
  exact varintParseFrom_digits le fits fun j le => digits j (Nat.lt_succ_of_le le)

theorem varintParse_le_max {q : Nat} (parsed : varintParse width mem cursor limit = .ok v q) :
    v ≤ width.max :=
  varintParseFrom_le_max (by cases width <;> rfl) (Nat.zero_le _) parsed

theorem varintParse_moved {cursor' : Nat} (same : limit' - cursor' = limit - cursor)
    (bytes : ∀ i < min (limit - cursor) width.maxDigits, mem' (cursor' + i) = mem (cursor + i)) :
    varintParse width mem' cursor' limit' = (varintParse width mem cursor limit).moved cursor cursor' :=
  varintParseFrom_moved (k := 0) same (by rwa [Nat.zero_add])

theorem varintParse_completed (ended : varintParse width mem cursor limit = .endOfData) :
    ∃ (mem' : Nat → Byte) (limit' v q : Nat), limit ≤ limit' ∧
      (∀ a, cursor ≤ a → a < limit → mem' a = mem a) ∧ varintParse width mem' cursor limit' = .ok v q := by
  have bytes : ∀ a, cursor ≤ a → a < limit → (if a < limit then mem a else 0) = mem a :=
    fun _ _ lt => if_pos lt
  obtain ⟨v, q, parsed⟩ := varintParseFrom_completed (limit' := max cursor limit + 1) ended bytes
    (fun _ limit_le => if_neg (not_lt.mpr limit_le)) (by omega) (by omega)
  exact ⟨_, _, v, q, by omega, bytes, parsed⟩

end Parse

/-- Settles O19, from what the parser makes of an encoding and of bytes that change, move or are added. -/
theorem varintRoundTrip : Obligations.VarintRoundTrip := by
  intro width mem cursor limit
  refine ⟨fun v le bytes => ⟨(length_varintEncode v).symm, fun whole => ?whole, fun cut => ?cut⟩,
    fun v q parsed => ?range, fun mem' cursor' limit' same bytes => ?moved, varintParse_completed,
    fun mem' limit' le bytes => varintParseFrom_extended le bytes⟩
  case whole => rw [varintParse_encoded le bytes, if_pos whole]
  case cut => rw [varintParse_encoded le bytes, if_neg (not_le.mpr cut)]
  case range => exact ⟨varintParse_le_max parsed, varintParseFrom_ok parsed⟩
  case moved =>
    rw [varintParse_moved same bytes]
    cases varintParse width mem cursor limit <;> rfl

/-! ### The length and encode commands -/

section Commands

variable {width : VarWidth} {a0 : Field} {s : State}

theorem varintOperandFault_of_neg (neg : s64 a0 < 0) : varintOperandFault width a0 = some .negativeValue :=
  if_pos neg

theorem varintOperandFault_of_gt (gt : (width.max : Int) < s64 a0) :
    varintOperandFault width a0 = some .badOperand := by
  rw [varintOperandFault, if_neg (by omega), if_pos gt]

theorem varintOperandFault_of_inRange (nonneg : 0 ≤ s64 a0) (le : s64 a0 ≤ width.max) :
    varintOperandFault width a0 = none := by
  rw [varintOperandFault, if_neg (not_lt.mpr nonneg), if_neg (not_lt.mpr le)]

theorem varintLenResult_of_fault {c : Cause} (fault : varintOperandFault width a0 = some c) :
    varintLenResult width a0 s = .raise c a0 := by
  rw [varintLenResult, fault]

theorem varintLenResult_of_valid (valid : varintOperandFault width a0 = none) :
    varintLenResult width a0 s = .ok s (field (varintLength (s64 a0).toNat)) 0 0 0 := by
  rw [varintLenResult, valid]

theorem varintEncResult_of_fault {c : Cause} (fault : varintOperandFault width a0 = some c) :
    varintEncResult width a0 s = .raise c a0 := by
  rw [varintEncResult, fault]

theorem varintEncResult_of_room (valid : varintOperandFault width a0 = none)
    (room : s.outLen + varintLength (s64 a0).toNat ≤ s.params.outCap) :
    varintEncResult width a0 s =
      .ok (s.append .out (varintEncode (s64 a0).toNat)) (field (varintLength (s64 a0).toNat)) 0 0 0 := by
  have fits : s.hasRoom .out (varintEncode (s64 a0).toNat).length = true := by
    rw [length_varintEncode]
    exact decide_eq_true room
  simp only [varintEncResult, valid, if_pos fits]
  rw [length_varintEncode]

theorem varintEncResult_of_full (valid : varintOperandFault width a0 = none)
    (full : s.params.outCap < s.outLen + varintLength (s64 a0).toNat) :
    varintEncResult width a0 s = .raise .capacity 6 := by
  have lacks : ¬ s.hasRoom .out (varintEncode (s64 a0).toNat).length = true := by
    rw [length_varintEncode]
    exact fun room => not_lt.mpr (of_decide_eq_true room) full
  simp only [varintEncResult, valid, if_neg lacks]
  rfl

end Commands

theorem State.writeBytes_out_frame (s : State) (a : Nat) (bs : List Byte) :
    { s.writeBytes .out a bs with out := s.out } = s := by
  induction bs generalizing s a with
  | nil => rfl
  | cons v rest ih =>
    exact congrArg (fun t : State => { t with out := s.out }) (ih (s.writeByte .out a v) (a + 1))

/-- An append to OUT changes the bytes of OUT and OUT_LEN alone. -/
theorem State.append_out_frame (s : State) (bs : List Byte) :
    { s.append .out bs with out := s.out, outLen := s.outLen } = s :=
  congrArg (fun t : State => { t with outLen := s.outLen }) (s.writeBytes_out_frame s.outLen bs)

/-- The length commands, with the number and the largest value that O18 gives them. -/
theorem exec_varintLen {a0 : Field} {e : Instr × Byte × Nat} (s : State)
    (mem : e ∈ [(Instr.varintLen32 a0, (0x10 : Byte), max32), (.varintLen64 a0, 0x11, max64)]) :
    ∃ width : VarWidth, exec e.1 s = command e.2.1 s (varintLenResult width a0 s) ∧ e.2.2 = width.max := by
  obtain rfl | rfl := List.mem_pair.mp mem
  · exact ⟨.w32, rfl, rfl⟩
  · exact ⟨.w64, rfl, rfl⟩

/-- The encode commands, with the number and the largest value that O18 gives them. -/
theorem exec_varintEnc {a0 : Field} {e : Instr × Byte × Nat} (s : State)
    (mem : e ∈ [(Instr.varintEnc32 a0, (0x12 : Byte), max32), (.varintEnc64 a0, 0x13, max64)]) :
    ∃ width : VarWidth, exec e.1 s = command e.2.1 s (varintEncResult width a0 s) ∧ e.2.2 = width.max := by
  obtain rfl | rfl := List.mem_pair.mp mem
  · exact ⟨.w32, rfl, rfl⟩
  · exact ⟨.w64, rfl, rfl⟩

/-- Settles O18: an operand fault or a value in range, and for the encode commands an append to OUT. -/
theorem varintLengthAndEncodeComplete : Obligations.VarintLengthAndEncodeComplete := by
  intro s a0 running
  refine ⟨fun e mem => ?length, fun e mem => ?encode⟩
  case length =>
    obtain ⟨width, run, top⟩ := exec_varintLen s mem
    rw [run, top]
    refine ⟨fun nonneg le => ?_, fun neg => ?_, fun gt => ?_⟩
    · rw [varintLenResult_of_valid (varintOperandFault_of_inRange nonneg le), command_ok (.inl running)]
    · rw [varintLenResult_of_fault (varintOperandFault_of_neg neg), command_raise (.inl running)]
    · rw [varintLenResult_of_fault (varintOperandFault_of_gt gt), command_raise (.inl running)]
  case encode =>
    obtain ⟨width, run, top⟩ := exec_varintEnc s mem
    rw [run, top]
    refine ⟨fun nonneg le room => ?room, fun nonneg le full => ?full, fun neg => ?neg, fun gt => ?gt⟩
    case room =>
      refine ⟨s.append .out (varintEncode (s64 a0).toNat), ?_, ?_, ?_, fun sp a outside => ?_,
        s.append_out_frame _⟩
      · rw [varintEncResult_of_room (varintOperandFault_of_inRange nonneg le) room,
          command_ok (.inl running)]
      · exact congrArg (s.outLen + ·) (length_varintEncode _)
      · rw [← length_varintEncode]
        exact s.readBytes_append_self .out _
      · rw [← length_varintEncode] at outside
        exact s.readByte_append_outside _ outside
    case full =>
      rw [varintEncResult_of_full (varintOperandFault_of_inRange nonneg le) full,
        command_raise (.inl running)]
    case neg => rw [varintEncResult_of_fault (varintOperandFault_of_neg neg), command_raise (.inl running)]
    case gt => rw [varintEncResult_of_fault (varintOperandFault_of_gt gt), command_raise (.inl running)]

/-! ### The parse commands -/

section ParseCommands

variable {width : VarWidth} {s : State}

theorem varintParseResult_of_ok {v q : Nat}
    (parsed : varintParse width (s.readByte .inp) s.inCursor s.inLimit = .ok v q) :
    varintParseResult width s = .ok { s with inCursor := q } (field v) (field q) 0 0 := by
  rw [varintParseResult, parsed]

theorem varintParseResult_of_endOfData
    (ended : varintParse width (s.readByte .inp) s.inCursor s.inLimit = .endOfData) :
    varintParseResult width s = .endOfData := by
  rw [varintParseResult, ended]

theorem varintParseResult_of_error
    (malformed : varintParse width (s.readByte .inp) s.inCursor s.inLimit = .error) :
    varintParseResult width s = .raise .varintOverflow (field s.inCursor) := by
  rw [varintParseResult, malformed]

end ParseCommands

/-- The parse commands, with the number and the width that O20 gives them. -/
theorem exec_varintParse {e : Instr × Byte × VarWidth} (s : State)
    (mem : e ∈ [(Instr.varintParse32, (0x14 : Byte), VarWidth.w32), (.varintParse64, 0x15, .w64)]) :
    exec e.1 s = command e.2.1 s (varintParseResult e.2.2 s) := by
  obtain rfl | rfl := List.mem_pair.mp mem <;> rfl

/-- PARSE_BYTE below the limit (rule R131). -/
theorem exec_parseByte_of_lt {s : State} (running : s.failed = false) (below : s.inCursor < s.inLimit) :
    exec .parseByte s = .next ({ s with inCursor := s.inCursor + 1 }.respond
      (Response.okay ((s.readByte .inp s.inCursor).setWidth 64) (field (s.inCursor + 1)) 0 0)) := by
  change command 0x16 s (ite _ _ _) = _
  rw [if_neg (not_le.mpr below), command_ok (.inl running), ← BitVec.ofNat_toNat]

/-- PARSE_BYTE at the limit (rule R131). -/
theorem exec_parseByte_of_le {s : State} (running : s.failed = false) (limit_le : s.inLimit ≤ s.inCursor) :
    exec .parseByte s = .next (s.respond (Response.bare .endOfData)) := by
  change command 0x16 s (ite _ _ _) = _
  rw [if_pos limit_le, command_endOfData (.inl running)]

/-- Settles O20: each answer of the parser is one ending of the command. -/
theorem parseCommandsComplete : Obligations.ParseCommandsComplete := by
  intro s running
  refine ⟨fun e mem => ?varint, exec_parseByte_of_lt running, exec_parseByte_of_le running⟩
  rw [exec_varintParse s mem]
  refine ⟨fun v q parsed => ?_, fun ended => ?_, fun malformed => ?_⟩
  · rw [varintParseResult_of_ok parsed, command_ok (.inl running)]
  · rw [varintParseResult_of_endOfData ended, command_endOfData (.inl running)]
  · rw [varintParseResult_of_error malformed, command_raise (.inl running)]

end Sys2Proof.Machine


/-! ## The rolling hash: the polynomial of the bytes, the bytes that leave it, and its commands
(41_rolling_hash.md)

A hash is the unreduced polynomial of its bytes modulo `2 ^ W`. The polynomial takes a byte in at its end by
Horner's rule, and a leading byte stands in it with its own term; an entry of the removal table is the additive
inverse of that term, so adding it drops the leading byte (O21). What is left takes in the entering byte: the
rolling law, first of the functions, then of the commands (O22, O23). -/

namespace Sys2Proof.Machine

/-! ### The polynomial -/

/-- The polynomial in `m` whose coefficients are the bytes, the most significant first, before it is reduced
(rule R140). -/
def bytePolynomial (m : Nat) (bytes : List Byte) : Nat :=
  ∑ i ∈ Finset.range bytes.length, (bytes.getD i 0).toNat * m ^ (bytes.length - 1 - i)

theorem bytePolynomial_nil (m : Nat) : bytePolynomial m [] = 0 := rfl

theorem bytePolynomial_cons (m : Nat) (x : Byte) (bytes : List Byte) :
    bytePolynomial m (x :: bytes) = bytePolynomial m bytes + x.toNat * m ^ bytes.length := by
  rw [bytePolynomial, List.length_cons, Finset.sum_range_succ']
  congr 1
  refine Finset.sum_congr rfl fun i _ => ?_
  rw [List.getD_cons_succ, Nat.sub_add_eq, Nat.add_sub_cancel, Nat.sub_right_comm]

/-- Horner's rule: a byte that enters at the end (rule R140). -/
theorem bytePolynomial_concat (m : Nat) (bytes : List Byte) (y : Byte) :
    bytePolynomial m (bytes ++ [y]) = bytePolynomial m bytes * m + y.toNat := by
  induction bytes with
  | nil => simp [bytePolynomial_cons, bytePolynomial_nil]
  | cons x bytes ih =>
    rw [List.cons_append, bytePolynomial_cons, bytePolynomial_cons, ih, List.length_append,
      List.length_singleton]
    ring

section Functions

variable (p : Params)

theorem hashOf_concat (bytes : List Byte) (y : Byte) :
    hashOf p (bytes ++ [y]) = (hashOf p bytes * p.m + y.toNat) % 2 ^ p.w := by
  rw [hashOf, List.foldl_concat]
  rfl

/-- The hash is the polynomial of the bytes modulo `2 ^ W` (rule R140). -/
theorem hashOf_eq_bytePolynomial (bytes : List Byte) :
    hashOf p bytes = bytePolynomial p.m bytes % 2 ^ p.w := by
  induction bytes using List.reverseRecOn with
  | nil => exact (Nat.zero_mod _).symm
  | append_singleton bytes y ih =>
    rw [hashOf_concat, bytePolynomial_concat, ih]
    exact ((Nat.mod_modEq _ _).mul_right p.m).add_right y.toNat

theorem hashOf_lt (bytes : List Byte) : hashOf p bytes < 2 ^ p.w := by
  rw [hashOf_eq_bytePolynomial]
  exact Nat.mod_lt _ (Nat.two_pow_pos _)

/-! ### The removal table -/

theorem length_removalTable : (removalTable p).length = 256 := by
  rw [removalTable, List.length_map, List.length_range]

theorem getD_removalTable {b : Nat} (lt : b < 256) : (removalTable p).getD b 0 = removalEntry p b := by
  rw [List.getD_eq_getElem _ _ (by rwa [length_removalTable])]
  simp [removalTable]

theorem removalEntry_lt (b : Nat) : removalEntry p b < 2 ^ p.w := Nat.mod_lt _ (Nat.two_pow_pos _)

theorem sub_mod_add_modEq_zero {n : Nat} (pos : 0 < n) (c : Nat) : (n - c % n) % n + c ≡ 0 [MOD n] :=
  calc (n - c % n) % n + c
      ≡ n - c % n + c % n [MOD n] := (Nat.mod_modEq _ _).add (Nat.mod_modEq _ _).symm
    _ = n := Nat.sub_add_cancel (Nat.mod_lt c pos).le
    _ ≡ 0 [MOD n] := Nat.modulus_modEq_zero

/-- An entry is the additive inverse of the term of a leading byte (rule R141). -/
theorem removalEntry_add_term_modEq_zero (b : Nat) :
    removalEntry p b + b * p.m ^ (p.b - 1) ≡ 0 [MOD 2 ^ p.w] :=
  calc removalEntry p b + b * p.m ^ (p.b - 1)
      ≡ removalEntry p b + b * (p.m ^ (p.b - 1) % 2 ^ p.w) [MOD 2 ^ p.w] :=
        ((Nat.mod_modEq _ _).symm.mul_left b).add_left _
    _ ≡ 0 [MOD 2 ^ p.w] := sub_mod_add_modEq_zero (Nat.two_pow_pos _) _

/-- Adding the entry of the leading byte of a window to its hash drops that byte (rule R141). -/
theorem hashOf_cons_add_removalEntry {mid : List Byte} (window : mid.length + 1 = p.b) (x : Byte) :
    (hashOf p (x :: mid) + removalEntry p x.toNat) % 2 ^ p.w = hashOf p mid := by
  have leading : p.m ^ mid.length = p.m ^ (p.b - 1) := by rw [← window, Nat.add_sub_cancel]
  rw [hashOf_eq_bytePolynomial, hashOf_eq_bytePolynomial, bytePolynomial_cons, leading]
  calc (bytePolynomial p.m mid + x.toNat * p.m ^ (p.b - 1)) % 2 ^ p.w + removalEntry p x.toNat
      ≡ bytePolynomial p.m mid + x.toNat * p.m ^ (p.b - 1) + removalEntry p x.toNat [MOD 2 ^ p.w] :=
        (Nat.mod_modEq _ _).add_right _
    _ = bytePolynomial p.m mid + (removalEntry p x.toNat + x.toNat * p.m ^ (p.b - 1)) := by ring
    _ ≡ bytePolynomial p.m mid [MOD 2 ^ p.w] := (removalEntry_add_term_modEq_zero p x.toNat).add_left _

/-- The rolling law of the functions (rule R143): the leading byte is dropped, then Horner's rule takes in the
entering one. -/
theorem hashUpdate_hashOf {mid : List Byte} (window : mid.length + 1 = p.b) (x y : Byte) :
    hashUpdate p (hashOf p (x :: mid)) ((removalTable p).getD x.toNat 0) y.toNat =
      hashOf p (mid ++ [y]) := by
  rw [hashUpdate, getD_removalTable p x.isLt, hashOf_cons_add_removalEntry p window, hashOf_concat]

end Functions

theorem exec_rhInit {s : State} (running : s.failed = false) :
    exec .rhInit s = .next ({ s with rhRemove := removalTable s.params, rhReady := true }.respond
      (Response.okay 0 0 0 0)) :=
  command_done (op := 0x20) (.inl running) _

/-- Settles O21, from the hash as a polynomial and the table's entries as inverses of its leading terms. -/
theorem hashAndRemovalTable : Obligations.HashAndRemovalTable := by
  refine ⟨hashOf_eq_bytePolynomial, fun s running => ⟨removalTable s.params, exec_rhInit running,
    length_removalTable _, fun b lt => ?_⟩⟩
  rw [getD_removalTable _ lt]
  exact ⟨removalEntry_lt _ b, removalEntry_add_term_modEq_zero _ b⟩

/-! ### The commands -/

theorem State.windowInside_iff {s : State} {offset size : Nat} :
    s.windowInside offset size = true ↔ offset ≤ max32 ∧ offset + s.params.b ≤ size := by
  rw [State.windowInside, Bool.and_eq_true, decide_eq_true_iff, decide_eq_true_iff]

section Commands

variable {s : State}

theorem exec_rhHash_of_notReady (running : s.failed = false) (notReady : s.rhReady = false)
    (a0 a1 : Field) : exec (.rhHash a0 a1) s = .next (s.takeFault 0x21 .notInitialized 0) := by
  change command 0x21 s (ite _ _ _) = _
  rw [if_pos notReady, command_raise (.inl running)]

theorem exec_rhUpdate_of_notReady (running : s.failed = false) (notReady : s.rhReady = false)
    (a0 a1 a2 : Field) : exec (.rhUpdate a0 a1 a2) s = .next (s.takeFault 0x22 .notInitialized 0) := by
  change command 0x22 s (ite _ _ _) = _
  rw [if_pos notReady, command_raise (.inl running)]

/-- RH_HASH of a space it does not know (rule R145). -/
theorem exec_rhHash_of_space_gt (running : s.failed = false) (ready : s.rhReady = true) {a0 : Field}
    (gt : 1 < u64 a0) (a1 : Field) :
    exec (.rhHash a0 a1) s = .next (s.takeFault 0x21 .badOperand a0) := by
  change command 0x21 s (ite _ _ (ite _ _ _)) = _
  rw [if_neg (by simp [ready]), if_pos gt, command_raise (.inl running)]

/-- RH_HASH of SRC or TGT, with the number and the size that O22 gives each (rule R145). -/
theorem exec_rhHash_of_space (ready : s.rhReady = true) {e : Nat × Space × Nat}
    (mem : e ∈ [(0, Space.src, s.srcSize), (1, .tgt, s.tgtSize)]) {a0 : Field} (space : u64 a0 = e.1)
    (a1 : Field) :
    exec (.rhHash a0 a1) s = command 0x21 s
      (if s.windowInside (u64 a1) e.2.2 then .ok s (field (s.hashAt e.2.1 (u64 a1))) 0 0 0
       else .raise .badOperand a1) := by
  change command 0x21 s (ite _ _ (ite _ _ _)) = _
  obtain rfl | rfl := List.mem_pair.mp mem <;> simp [ready, space]

theorem exec_rhHash_of_inside (running : s.failed = false) (ready : s.rhReady = true)
    {e : Nat × Space × Nat} (mem : e ∈ [(0, Space.src, s.srcSize), (1, .tgt, s.tgtSize)]) {a0 a1 : Field}
    (space : u64 a0 = e.1) (word : u64 a1 ≤ max32) (inside : u64 a1 + s.params.b ≤ e.2.2) :
    exec (.rhHash a0 a1) s =
      .next (s.respond (Response.okay (field (s.hashAt e.2.1 (u64 a1))) 0 0 0)) := by
  rw [exec_rhHash_of_space ready mem space, if_pos (State.windowInside_iff.mpr ⟨word, inside⟩),
    command_ok (.inl running)]

theorem exec_rhHash_of_outside (running : s.failed = false) (ready : s.rhReady = true)
    {e : Nat × Space × Nat} (mem : e ∈ [(0, Space.src, s.srcSize), (1, .tgt, s.tgtSize)]) {a0 a1 : Field}
    (space : u64 a0 = e.1) (outside : max32 < u64 a1 ∨ e.2.2 < u64 a1 + s.params.b) :
    exec (.rhHash a0 a1) s = .next (s.takeFault 0x21 .badOperand a1) := by
  have lacks : ¬ s.windowInside (u64 a1) e.2.2 = true := by
    rw [State.windowInside_iff]
    omega
  rw [exec_rhHash_of_space ready mem space, if_neg lacks, command_raise (.inl running)]

/-- RH_UPDATE once the table is filled: the operands are checked in their order (rule R146). -/
theorem exec_rhUpdate_of_ready (ready : s.rhReady = true) (a0 a1 a2 : Field) :
    exec (.rhUpdate a0 a1 a2) s = command 0x22 s
      (if 2 ^ s.params.w ≤ u64 a0 then .raise .badOperand a0
       else if 255 < u64 a1 then .raise .badOperand a1
       else if 255 < u64 a2 then .raise .badOperand a2
       else .ok s (field (hashUpdate s.params (u64 a0) (s.rhRemove.getD (u64 a1) 0) (u64 a2))) 0 0 0) := by
  change command 0x22 s (ite _ _ _) = _
  rw [if_neg (by simp [ready])]

theorem exec_rhUpdate_of_inRange (running : s.failed = false) (ready : s.rhReady = true) {a0 a1 a2 : Field}
    (hash : u64 a0 < 2 ^ s.params.w) (leaving : u64 a1 ≤ 255) (entering : u64 a2 ≤ 255) :
    exec (.rhUpdate a0 a1 a2) s = .next (s.respond (Response.okay
      (field (hashUpdate s.params (u64 a0) (s.rhRemove.getD (u64 a1) 0) (u64 a2))) 0 0 0)) := by
  rw [exec_rhUpdate_of_ready ready, if_neg (not_le.mpr hash), if_neg (not_lt.mpr leaving),
    if_neg (not_lt.mpr entering), command_ok (.inl running)]

end Commands

/-- Settles O22: each check of the two commands in its order, then the hash. -/
theorem hashCommandsComplete : Obligations.HashCommandsComplete := by
  intro s a0 a1 a2 running
  refine ⟨fun notReady => ⟨exec_rhHash_of_notReady running notReady a0 a1,
    exec_rhUpdate_of_notReady running notReady a0 a1 a2⟩, fun ready => ⟨fun gt => ?space,
    fun e mem space => ⟨fun word inside => ?inside, fun outside => ?outside⟩, fun large => ?hash,
    fun hash gt => ?leaving, fun hash leaving gt => ?entering,
    exec_rhUpdate_of_inRange running ready⟩⟩
  case space => exact exec_rhHash_of_space_gt running ready gt a1
  case inside => exact exec_rhHash_of_inside running ready mem space word inside
  case outside => exact exec_rhHash_of_outside running ready mem space outside
  case hash => rw [exec_rhUpdate_of_ready ready, if_pos large, command_raise (.inl running)]
  case leaving =>
    rw [exec_rhUpdate_of_ready ready, if_neg (not_le.mpr hash), if_pos gt, command_raise (.inl running)]
  case entering =>
    rw [exec_rhUpdate_of_ready ready, if_neg (not_le.mpr hash), if_neg (not_lt.mpr leaving), if_pos gt,
      command_raise (.inl running)]

/-! ### The window one byte on -/

theorem State.readBytes_succ_eq_cons (s : State) (sp : Space) (a n : Nat) :
    s.readBytes sp a (n + 1) = s.readByte sp a :: s.readBytes sp (a + 1) n := by
  simp [State.readBytes, List.range_succ_eq_map, Nat.add_right_comm _ 1, Nat.add_assoc]

theorem State.readBytes_succ_eq_concat (s : State) (sp : Space) (a n : Nat) :
    s.readBytes sp a (n + 1) = s.readBytes sp a n ++ [s.readByte sp (a + n)] := by
  simp [State.readBytes, List.range_succ]

/-- The rolling law of the hashes of a buffer (rules R143, R147). -/
theorem State.hashUpdate_hashAt {s : State} (pos : 1 ≤ s.params.b) (sp : Space) (o : Nat) :
    hashUpdate s.params (s.hashAt sp o) ((removalTable s.params).getD (s.readByte sp o).toNat 0)
      (s.readByte sp (o + s.params.b)).toNat = s.hashAt sp (o + 1) := by
  obtain ⟨n, size⟩ := Nat.exists_eq_add_of_le' pos
  rw [State.hashAt, State.hashAt, size, s.readBytes_succ_eq_cons, s.readBytes_succ_eq_concat,
    hashUpdate_hashOf s.params (by rw [s.length_readBytes, size]), Nat.add_right_comm, Nat.add_assoc]

theorem u64_field_of_lt {n : Nat} (lt : n < 2 ^ 64) : u64 (field n) = n :=
  (BitVec.toNat_ofNat n 64).trans (Nat.mod_eq_of_lt lt)

theorem u64_setWidth_byte (b : Byte) : u64 (b.setWidth 64) = b.toNat :=
  BitVec.toNat_setWidth_of_le (by decide)

theorem u64_setWidth_byte_le (b : Byte) : u64 (b.setWidth 64) ≤ 255 :=
  (u64_setWidth_byte b).trans_le (Nat.le_of_lt_succ b.isLt)

section Window

variable {s : State} {o : Nat}

/-- RH_HASH of a window of SRC or TGT given by numbers (rule R145). -/
theorem exec_rhHash_field (running : s.failed = false) (ready : s.rhReady = true) {e : Nat × Space × Nat}
    (mem : e ∈ [(0, Space.src, s.srcSize), (1, .tgt, s.tgtSize)]) (word : o ≤ max32)
    (inside : o + s.params.b ≤ e.2.2) :
    exec (.rhHash (field e.1) (field o)) s =
      .next (s.respond (Response.okay (field (s.hashAt e.2.1 o)) 0 0 0)) := by
  have space : u64 (field e.1) = e.1 := by obtain rfl | rfl := List.mem_pair.mp mem <;> rfl
  have offset : u64 (field o) = o := u64_field_of_lt (word.trans_lt (by decide))
  rw [exec_rhHash_of_inside running ready mem space (by rwa [offset]) (by rwa [offset]), offset]

/-- RH_UPDATE of the hash of a window with the bytes that leave and enter it: the rolling law of the commands
(rule R147). -/
theorem exec_rhUpdate_hashAt (running : s.failed = false) (ready : s.rhReady = true) (table : s.TableInv)
    (pos : 1 ≤ s.params.b) (width : s.params.w ≤ 63) (sp : Space) :
    exec (.rhUpdate (field (s.hashAt sp o)) ((s.readByte sp o).setWidth 64)
      ((s.readByte sp (o + s.params.b)).setWidth 64)) s =
      .next (s.respond (Response.okay (field (s.hashAt sp (o + 1))) 0 0 0)) := by
  have hash_lt : s.hashAt sp o < 2 ^ s.params.w := hashOf_lt _ _
  have hash : u64 (field (s.hashAt sp o)) = s.hashAt sp o :=
    u64_field_of_lt (hash_lt.trans (Nat.pow_lt_pow_right (by decide) (by omega)))
  rw [exec_rhUpdate_of_inRange running ready (by rwa [hash]) (u64_setWidth_byte_le _)
    (u64_setWidth_byte_le _), hash, u64_setWidth_byte, u64_setWidth_byte, table ready,
    State.hashUpdate_hashAt pos]

end Window

/-- Settles O23: RH_HASH answers at both offsets, and RH_UPDATE answers the second by the rolling law. -/
theorem rollingLaw : Obligations.RollingLaw := by
  refine ⟨fun p x y mid window => hashUpdate_hashOf p window x y,
    fun s o running ready table pos width word e mem inside =>
      ⟨field (s.hashAt e.2.1 o), field (s.hashAt e.2.1 (o + 1)), ?here, ?next,
        exec_rhUpdate_hashAt running ready table pos width e.2.1⟩⟩
  case here => exact exec_rhHash_field running ready mem (Nat.le_of_succ_le word) (by omega)
  case next => exact exec_rhHash_field running ready mem word inside

end Sys2Proof.Machine

/-! ## The block index: what constructs it, what extends it, and that every step keeps it exact
(42_block_hash.md)

Adding the next block keeps the index exact; so the loop of BH_ADD_THROUGH does, and BH_INIT starts it from
the empty index (O24, O25). No other command writes the index, and MEM_WRITE, the one command that writes SRC, is
refused on the bytes that the index depends on (O56). -/

namespace Sys2Proof.Machine

/-! ### Blocks and buckets -/

theorem newestBelow_congr {p q : Nat → Bool} {n : Nat} (h : ∀ k < n, p k = q k) :
    newestBelow p n = newestBelow q n := by
  induction n with
  | zero => rfl
  | succ n ih =>
    rw [newestBelow, newestBelow, h n (Nat.lt_succ_self n),
      ih fun k hk => h k (hk.trans (Nat.lt_succ_self n))]

/-- A bucket depends on the bytes of its block alone (rule R150). -/
theorem State.bucketAt_congr {s t : State} (params : t.params = s.params) {a : Nat}
    (bytes : ∀ i < s.params.b, t.readByte .src (a + i) = s.readByte .src (a + i)) :
    t.bucketAt a = s.bucketAt a := by
  rw [State.bucketAt, State.bucketAt, State.hashAt, State.hashAt, params, State.readBytes_congr bytes]

/-- The bytes of the indexed blocks of `s` are the same in `t` (20_memory.md rule R68). -/
def State.KeepsIndexedBytes (s t : State) : Prop :=
  ∀ a : Nat, (a : Int) < (s.bhLastBlock + 1) * s.params.b → t.readByte .src a = s.readByte .src a

/-- `t` has the index of `s`: its registers, and the bytes of the blocks in it. -/
structure State.KeepsIndex (s t : State) : Prop where
  params : t.params = s.params
  ready : t.bhReady = s.bhReady
  size : t.srcSize = s.srcSize
  offset : t.bhStartOffset = s.bhStartOffset
  head : t.bhHead = s.bhHead
  next : t.bhNext = s.bhNext
  last : t.bhLastBlock = s.bhLastBlock
  lastEnd : t.bhLastEnd = s.bhLastEnd
  bytes : s.KeepsIndexedBytes t

theorem State.KeepsIndexedBytes.bucketAt {s t : State} (h : s.KeepsIndexedBytes t)
    (params : t.params = s.params) {k : Nat} (hk : (k : Int) ≤ s.bhLastBlock) :
    t.bucketAt (k * s.params.b) = s.bucketAt (k * s.params.b) := by
  refine State.bucketAt_congr params fun i hi => h _ ?_
  calc ((k * s.params.b + i : Nat) : Int)
      < (k + 1) * s.params.b := by push_cast; linarith
    _ ≤ (s.bhLastBlock + 1) * s.params.b :=
      Int.mul_le_mul_of_nonneg_right (by omega) (Int.natCast_nonneg _)

theorem State.KeepsIndexedBytes.newestBlock {s t : State} (h : s.KeepsIndexedBytes t)
    (params : t.params = s.params) (i : Nat) {n : Nat} (hn : (n : Int) ≤ s.bhLastBlock + 1) :
    t.newestBlock i n = s.newestBlock i n := by
  rw [State.newestBlock, State.newestBlock, params]
  exact newestBelow_congr fun k hk => by rw [h.bucketAt params (by omega)]

/-- The index is exact wherever it and the bytes of its blocks are kept. -/
theorem State.IndexInv.of_keepsIndex {s t : State} (h : s.IndexInv) (kept : s.KeepsIndex t) :
    t.IndexInv := by
  have last_ge := h.last_ge
  obtain ⟨params, ready, size, offset, head, next, last, lastEnd, bytes⟩ := kept
  constructor
  all_goals simp only [params, ready, size, offset, head, next, last, lastEnd]
  case head_newest =>
    intro constructed i
    rw [h.head_newest constructed, bytes.newestBlock params i (by omega)]
  case next_newest =>
    intro constructed k hk
    rw [h.next_newest constructed k hk, bytes.bucketAt params hk, bytes.newestBlock params _ (by omega)]
  case next_none => exact h.next_none
  case block_pos => exact h.block_pos
  case last_ge => exact h.last_ge
  case last_inside => exact h.last_inside
  case end_ge => exact h.end_ge
  case end_le => exact h.end_le
  case src_le => exact h.src_le
  case bias_le => exact h.bias_le
  case none_before_init => exact h.none_before_init

/-- BH_LAST_END is any end not above SRC_SIZE (10_state.md rule R26). -/
theorem State.IndexInv.setLastEnd {s : State} (h : s.IndexInv) {stop : Int} (ge : -1 ≤ stop)
    (le : stop ≤ s.srcSize) : { s with bhLastEnd := stop }.IndexInv :=
  { h with end_ge := ge, end_le := le }

/-- Before BH_INIT there is no block (10_state.md rule R36). -/
theorem State.indexInv_resetWith {p : Params} (pos : 1 ≤ p.b) : (State.resetWith p).IndexInv where
  block_pos := pos
  last_ge := le_refl _
  last_inside := (Int.zero_mul _).le
  end_ge := le_refl _
  end_le := (by decide : (-1 : Int) ≤ (0 : Nat))
  src_le := Nat.zero_le _
  bias_le := Nat.zero_le _
  none_before_init _ := rfl
  head_newest constructed := nomatch constructed
  next_newest constructed := nomatch constructed
  next_none constructed := nomatch constructed

theorem State.indexInv_fullReset {s : State} (pos : 1 ≤ s.params.b) : s.fullReset.IndexInv :=
  (State.indexInv_resetWith pos).of_keepsIndex
    ⟨rfl, rfl, rfl, rfl, rfl, rfl, rfl, rfl, fun a lt => absurd ((Int.zero_mul _).symm ▸ lt) (by omega)⟩

/-- An index with no block in it is exact (rule R153). -/
theorem State.indexInv_emptyIndex {s : State} (pos : 1 ≤ s.params.b) {size offset : Nat}
    (inside : size ≤ s.params.srcCap) (bias : size + offset ≤ max32) :
    (s.emptyIndex size offset).IndexInv where
  block_pos := pos
  last_ge := le_refl _
  last_inside := by simp
  end_ge := le_refl _
  end_le := by simp
  src_le := inside
  bias_le := bias
  none_before_init unready := nomatch unready
  head_newest _ _ := rfl
  next_newest _ k hk := absurd hk (by simp only [State.emptyIndex_bhLastBlock]; omega)
  next_none _ _ _ := rfl

/-! ### Adding blocks -/

theorem Sparse.erase_of_lookup_eq_none {α : Type} {k : Nat} {m : Sparse α} (h : Sparse.lookup k m = none) :
    Sparse.erase k m = m := by
  induction m with
  | nil => rfl
  | cons e rest ih =>
    obtain ⟨k', v⟩ := e
    unfold Sparse.lookup at h
    split at h
    · cases h
    · next other => rw [Sparse.erase, if_neg other, ih h]

/-- An entry of BH_NEXT not listed before, once it is set. -/
theorem lookup_setLink_self {a : Sparse Nat} {k : Nat} (unlisted : Sparse.lookup k a = none)
    (v : Option Nat) : Sparse.lookup k (setLink a k v) = v := by
  cases v with
  | none => rw [setLink, Sparse.erase_of_lookup_eq_none unlisted, unlisted]
  | some v => exact Sparse.lookup_insert_self k v a

theorem lookup_setLink_of_ne {a : Sparse Nat} {j k : Nat} (other : j ≠ k) (v : Option Nat) :
    Sparse.lookup j (setLink a k v) = Sparse.lookup j a := by
  cases v with
  | none => exact Sparse.lookup_erase_of_ne a other
  | some v => exact Sparse.lookup_insert_of_ne v a other

theorem State.newestBlock_succ (s : State) (i n : Nat) :
    s.newestBlock i (n + 1) = if s.bucketAt (n * s.params.b) = i then some n else s.newestBlock i n := by
  simp only [State.newestBlock, newestBelow, beq_iff_eq]

/-- Adding the block after the last one keeps the index exact: the block becomes the head of its bucket, and
what was the head comes after it (rules R151, R152). -/
theorem State.IndexInv.addBlock {s : State} (h : s.IndexInv) (ready : s.bhReady = true) {k : Nat}
    (next : s.bhLastBlock + 1 = k) (inside : (k + 1) * s.params.b ≤ s.srcSize) :
    (s.addBlock k).IndexInv where
  block_pos := h.block_pos
  last_ge := by rw [State.addBlock_bhLastBlock]; omega
  last_inside := by simpa using mod_cast inside
  end_ge := h.end_ge
  end_le := h.end_le
  src_le := h.src_le
  bias_le := h.bias_le
  none_before_init unready := absurd ready (by simpa using unready)
  head_newest _ i := by
    change Sparse.lookup i (Sparse.insert _ k s.bhHead) = s.newestBlock i (k + 1)
    rw [State.newestBlock_succ]
    split
    case isTrue same => rw [same, Sparse.lookup_insert_self]
    case isFalse other =>
      rw [Sparse.lookup_insert_of_ne _ _ (Ne.symm other), h.head_newest ready, next, Int.toNat_natCast]
  next_newest _ j hj := by
    change Sparse.lookup j (setLink s.bhNext k _) = s.newestBlock (s.bucketAt (j * s.params.b)) j
    obtain rfl | other := eq_or_ne j k
    · rw [lookup_setLink_self (h.next_none ready j (by omega)), h.head_newest ready, next,
        Int.toNat_natCast]
    · have : (j : Int) ≤ k := hj
      rw [lookup_setLink_of_ne other, h.next_newest ready j (by omega)]
  next_none _ j hj := by
    have : (k : Int) < j := hj
    exact (lookup_setLink_of_ne (by omega) _).trans (h.next_none ready j (by omega))

/-- Block `k` starts below `stop` and lies wholly inside SRC_SIZE (rule R154). -/
def State.InReach (s : State) (stop k : Nat) : Prop :=
  k * s.params.b < stop ∧ (k + 1) * s.params.b ≤ s.srcSize

theorem State.InReach.mono {s : State} {stop j k : Nat} (h : s.InReach stop k) (le : j ≤ k) :
    s.InReach stop j :=
  ⟨(Nat.mul_le_mul_right _ le).trans_lt h.1, (Nat.mul_le_mul_right _ (Nat.succ_le_succ le)).trans h.2⟩

/-- A block in reach is one of the SRC_SIZE div B blocks, for which the loop has turns enough. -/
theorem State.InReach.lt_div {s : State} (pos : 1 ≤ s.params.b) {stop k : Nat} (h : s.InReach stop k) :
    k < s.srcSize / s.params.b :=
  (Nat.le_div_iff_mul_le pos).mpr h.2

theorem State.inReach_size_iff {s : State} (pos : 1 ≤ s.params.b) {k : Nat} :
    s.InReach s.srcSize k ↔ k < s.srcSize / s.params.b := by
  refine ⟨fun h => h.lt_div pos, fun lt => ?_⟩
  have inside := (Nat.le_div_iff_mul_le pos).mp lt
  exact ⟨(Nat.mul_lt_mul_of_pos_right k.lt_succ_self pos).trans_le inside, inside⟩

/-- `t` is `s` with the blocks in the index that are in `reach`, and those that were. -/
structure State.Extended (s t : State) (reach : Nat → Prop) : Prop where
  inv : t.IndexInv
  last_le : s.bhLastBlock ≤ t.bhLastBlock
  block_iff : ∀ k : Nat, s.bhLastBlock < k → ((k : Int) ≤ t.bhLastBlock ↔ reach k)

/-- The loop of rule R154 adds the blocks in reach that its turns allow. -/
theorem State.IndexInv.addBlocksFrom {s : State} (h : s.IndexInv) (ready : s.bhReady = true)
    (stop turns : Nat) {k : Nat} (next : s.bhLastBlock + 1 = k) :
    s.Extended (s.addBlocksFrom stop turns k) fun j => s.InReach stop j ∧ j < k + turns := by
  induction turns generalizing s k with
  | zero => exact ⟨h, le_refl _, fun j hj => ⟨fun le => absurd le (not_le.mpr hj), fun lt => by omega⟩⟩
  | succ turns ih =>
    unfold State.addBlocksFrom
    split
    case isTrue reach =>
      obtain ⟨kept, last_le, block_iff⟩ := ih (h.addBlock ready next reach.2) ready (k := k + 1) rfl
      have last_le : (k : Int) ≤ _ := last_le
      refine ⟨kept, by omega, fun j hj => ?_⟩
      obtain rfl | other := eq_or_ne j k
      · exact ⟨fun _ => ⟨reach, by omega⟩, fun _ => last_le⟩
      · rw [block_iff j (by rw [State.addBlock_bhLastBlock]; omega), Nat.add_right_comm]
        rfl
    case isFalse stops =>
      exact ⟨h, le_refl _, fun j hj =>
        ⟨fun le => absurd le (not_le.mpr hj), fun reach => absurd (reach.1.mono (by omega)) stops⟩⟩

/-- BH_ADD_THROUGH and the populating BH_INIT add every block in reach (rules R153, R154). -/
theorem State.IndexInv.addBlocksThrough {s : State} (h : s.IndexInv) (ready : s.bhReady = true)
    (stop : Nat) : s.Extended (s.addBlocksThrough stop) (s.InReach stop) := by
  have last_ge := h.last_ge
  obtain ⟨kept, last_le, block_iff⟩ :=
    h.addBlocksFrom ready stop (s.srcSize / s.params.b) (Int.toNat_of_nonneg (by omega)).symm
  refine ⟨kept, last_le, fun k hk => (block_iff k hk).trans (and_iff_left_of_imp fun reach => ?_)⟩
  exact (reach.lt_div h.block_pos).trans_le (Nat.le_add_left _ _)

/-! ### BH_ADD_THROUGH -/

section Ready

variable {s : State} {ready : Bool}

/-- A command that needs a unit not yet initialized takes the fault before any other (rules R153 to R160). -/
theorem command_notInitialized (running : s.failed = false) (notReady : ready = false) (op : Byte)
    (r : Result) : command op s (if ready = false then .raise .notInitialized 0 else r) =
      .next (s.takeFault op .notInitialized 0) := by
  rw [if_pos notReady, command_raise (.inl running)]

theorem command_initialized (isReady : ready = true) (op : Byte) (r : Result) :
    command op s (if ready = false then .raise .notInitialized 0 else r) = command op s r := by
  rw [if_neg (Bool.not_eq_false _ ▸ isReady)]

end Ready

theorem exec_bhAddThrough_of_ready {s : State} (ready : s.bhReady = true) (a0 : Field) :
    exec (.bhAddThrough a0) s = command 0x31 s
      (if s64 a0 ≤ s.bhLastEnd then .raise .rangeRegression a0
       else if (s.srcSize : Int) < s64 a0 then .raise .badOperand a0
       else
         let t := { s.addBlocksThrough (s64 a0).toNat with bhLastEnd := s64 a0 }
         .ok t t.blockCount 0 0 0) :=
  command_initialized ready 0x31 _

/-- Settles O25: each check in its order, then the loop, which adds exactly the blocks in reach. -/
theorem bhAddThroughCompletes : Obligations.BhAddThroughCompletes := by
  intro s a0 running
  refine ⟨fun notReady => command_notInitialized running notReady 0x31 _, fun ready =>
    ⟨fun regress => ?regression, fun above beyond => ?beyond, fun above le h =>
      ⟨{ s.addBlocksThrough (s64 a0).toNat with bhLastEnd := s64 a0 }, ?completes, rfl, ?_⟩⟩⟩
  case regression => rw [exec_bhAddThrough_of_ready ready, if_pos regress, command_raise (.inl running)]
  case beyond =>
    rw [exec_bhAddThrough_of_ready ready, if_neg (not_le.mpr above), if_pos beyond,
      command_raise (.inl running)]
  case completes =>
    rw [exec_bhAddThrough_of_ready ready, if_neg (not_le.mpr above), if_neg (not_lt.mpr le),
      command_ok (.inl running)]
    rfl
  have end_ge := h.end_ge
  obtain ⟨kept, last_le, block_iff⟩ := h.addBlocksThrough ready (s64 a0).toNat
  refine ⟨kept.setLastEnd (by omega) (by simpa using le), last_le, fun k hk => ?blocks, ?frame⟩
  case blocks => rw [block_iff k hk, State.InReach, Int.lt_toNat]
  case frame =>
    exact (congrArg (fun u : State => { u with bhLastEnd := s.bhLastEnd })
      (s.addBlocksThrough_frame (s64 a0).toNat) :)

/-! ### BH_INIT -/

section Init

variable {s : State}

theorem exec_bhInit_of_ready (ready : s.rhReady = true) (a0 a1 a2 : Field) :
    exec (.bhInit a0 a1 a2) s = command 0x30 s
      (if s.params.srcCap < u64 a0 then .raise .badOperand a0
       else if max32 < u64 a1 ∨ max32 < u64 a0 + u64 a1 then .raise .badOperand a1
       else if 1 < u64 a2 then .raise .badOperand a2
       else
         let e := s.emptyIndex (u64 a0) (u64 a1)
         if u64 a2 = 1 then
           let t := { e.addBlocksThrough (u64 a0) with bhLastEnd := u64 a0 }
           .ok t t.blockCount 0 0 0
         else .ok e e.blockCount 0 0 0) :=
  command_initialized ready 0x30 _

/-- The index BH_INIT constructs over `size` bytes with the bias `offset`, populated or not (rule R153). -/
def State.newIndex (s : State) (size offset : Nat) (populate : Bool) : State :=
  if populate then { (s.emptyIndex size offset).addBlocksThrough size with bhLastEnd := size }
  else s.emptyIndex size offset

theorem exec_bhInit_of_inRange (running : s.failed = false) (ready : s.rhReady = true) {a0 a1 a2 : Field}
    (size : u64 a0 ≤ s.params.srcCap) (offset : u64 a0 + u64 a1 ≤ max32) (populate : u64 a2 ≤ 1) :
    exec (.bhInit a0 a1 a2) s = .next ((s.newIndex (u64 a0) (u64 a1) (a2 = 1)).respond
      (Response.okay (s.newIndex (u64 a0) (u64 a1) (a2 = 1)).blockCount 0 0 0)) := by
  have populates : u64 a2 = 1 ↔ a2 = 1 := BitVec.toNat_inj (y := 1#64)
  rw [exec_bhInit_of_ready ready, if_neg (not_lt.mpr size), if_neg (by omega), if_neg (not_lt.mpr populate)]
  dsimp only
  simp only [populates, State.newIndex, decide_eq_true_eq]
  split <;> exact command_ok (.inl running) _ _ _ _ _

variable {size offset : Nat}

theorem State.newIndex_frame (s : State) (size offset : Nat) (populate : Bool) :
    { s.newIndex size offset populate with
      srcSize := s.srcSize, bhStartOffset := s.bhStartOffset, bhHead := s.bhHead, bhNext := s.bhNext,
      bhLastBlock := s.bhLastBlock, bhLastEnd := s.bhLastEnd, bhReady := s.bhReady } = s := by
  cases populate with
  | false => rfl
  | true =>
    exact (congrArg (fun u : State => { u with
      srcSize := s.srcSize, bhStartOffset := s.bhStartOffset, bhHead := s.bhHead, bhNext := s.bhNext,
      bhLastBlock := s.bhLastBlock, bhLastEnd := s.bhLastEnd, bhReady := s.bhReady })
      ((s.emptyIndex size offset).addBlocksThrough_frame size) :)

theorem State.newIndex_extent (s : State) (size offset : Nat) (populate : Bool) :
    (s.newIndex size offset populate).srcSize = size ∧
      (s.newIndex size offset populate).bhStartOffset = offset ∧
      (s.newIndex size offset populate).bhReady = true := by
  cases populate with
  | false => exact ⟨rfl, rfl, rfl⟩
  | true => exact ⟨by simp [State.newIndex], by simp [State.newIndex], by simp [State.newIndex]⟩

theorem State.newIndex_lastEnd (s : State) (size offset : Nat) (populate : Bool) :
    (s.newIndex size offset populate).bhLastEnd = if populate then (size : Int) else -1 := by
  cases populate <;> rfl

/-- A new index is exact (rule R150). -/
theorem State.indexInv_newIndex (pos : 1 ≤ s.params.b) (inside : size ≤ s.params.srcCap)
    (bias : size + offset ≤ max32) (populate : Bool) : (s.newIndex size offset populate).IndexInv := by
  have emptied : (s.emptyIndex size offset).IndexInv := State.indexInv_emptyIndex pos inside bias
  cases populate with
  | false => exact emptied
  | true =>
    exact (emptied.addBlocksThrough rfl size).inv.setLastEnd (by omega) (by simp)

/-- Populating adds every whole block: there are `size div B` of them (rule R153). -/
theorem State.newIndex_lastBlock (pos : 1 ≤ s.params.b) (inside : size ≤ s.params.srcCap)
    (bias : size + offset ≤ max32) (populate : Bool) :
    (s.newIndex size offset populate).bhLastBlock =
      (if populate then ((size / s.params.b : Nat) : Int) else 0) - 1 := by
  cases populate with
  | false => rfl
  | true =>
    obtain ⟨kept, -, block_iff⟩ :=
      (State.indexInv_emptyIndex pos inside bias).addBlocksThrough rfl size
    have last_ge := kept.last_ge
    have whole (k : Nat) : (k : Int) ≤ ((s.emptyIndex size offset).addBlocksThrough size).bhLastBlock ↔
        k < size / s.params.b :=
      (block_iff k (by rw [State.emptyIndex_bhLastBlock]; omega)).trans
        (State.inReach_size_iff (s := s.emptyIndex size offset) pos)
    have first_out := whole (size / s.params.b)
    have last_in := whole (size / s.params.b - 1)
    change ((s.emptyIndex size offset).addBlocksThrough size).bhLastBlock =
      ((size / s.params.b : Nat) : Int) - 1
    omega

end Init

/-- Settles O24: each check in its order, then what a new index holds. -/
theorem bhInitCompletes : Obligations.BhInitCompletes := by
  intro s a0 a1 a2 running pos
  refine ⟨fun notReady => command_notInitialized running notReady 0x30 _, fun ready =>
    ⟨fun large => ?size, fun size large => ?offset, fun size offset large => ?populate,
      fun size offset populate =>
      ⟨s.newIndex a0.toNat a1.toNat (a2 = 1), exec_bhInit_of_inRange running ready size offset populate, ?_⟩⟩⟩
  case size => rw [exec_bhInit_of_ready ready, if_pos large, command_raise (.inl running)]
  case offset =>
    rw [exec_bhInit_of_ready ready, if_neg (not_lt.mpr size), if_pos large, command_raise (.inl running)]
  case populate =>
    rw [exec_bhInit_of_ready ready, if_neg (not_lt.mpr size),
      if_neg (not_or.mpr ⟨not_lt.mpr (le_of_add_le_right offset), not_lt.mpr offset⟩), if_pos large,
      command_raise (.inl running)]
  obtain ⟨src, bias, constructed⟩ := s.newIndex_extent a0.toNat a1.toNat (a2 = 1)
  refine ⟨?_, ?_, src, bias, constructed, State.indexInv_newIndex pos size offset _, s.newIndex_frame _ _ _⟩
  · simpa using State.newIndex_lastBlock pos size offset (a2 = 1)
  · simpa using s.newIndex_lastEnd a0.toNat a1.toNat (a2 = 1)

/-! ### Every step -/

theorem State.KeepsIndexedBytes.refl (s : State) : s.KeepsIndexedBytes s := fun _ _ => rfl

/-- A byte of SRC that MEM_WRITE may write belongs to no indexed block (20_memory.md rule R68). -/
theorem State.IndexInv.not_indexed {s : State} (h : s.IndexInv) {a : Nat} (free : s.srcIndexed a = false) :
    (s.bhLastBlock + 1) * s.params.b ≤ a := by
  unfold State.srcIndexed at free
  cases ready : s.bhReady with
  | true => simpa [ready] using free
  | false => simp [h.none_before_init ready]

/-- MEM_WRITE keeps the index and the bytes under it (46_system.md rule R246). -/
theorem State.IndexInv.keepsIndex_writeByte {s : State} (h : s.IndexInv) {sp : Space} {a : Nat} (v : Byte)
    (mutable : sp = .src → s.srcIndexed a = false) : s.KeepsIndex (s.writeByte sp a v) where
  params := by simp
  ready := by simp
  size := by simp
  offset := by simp
  head := by simp
  next := by simp
  last := by simp
  lastEnd := by simp
  bytes j hj := by
    refine State.readByte_writeByte_of_ne s v (or_iff_not_imp_left.mpr fun same => ?_)
    have := h.not_indexed (mutable (not_not.mp same).symm)
    rintro rfl
    omega

/-- The commands that write the index or the bytes of SRC: RESET, MEM_WRITE, BH_INIT, BH_ADD_THROUGH
(10_state.md rule R22). -/
def indexOps : List Byte := [0x01, 0x06, 0x30, 0x31]

section Effect

variable {op : Byte} {s u t : State}

/-- Where the index is kept, so are its exactness and the bytes under it. -/
theorem State.IndexInv.kept (h : s.IndexInv) (kept : s.KeepsIndex t) :
    t.IndexInv ∧ (op = 0x01 ∨ s.KeepsIndexedBytes t) :=
  ⟨h.of_keepsIndex kept, .inr kept.bytes⟩

/-- A command of another number keeps the index, by the frame of the dictionary domain. -/
theorem Effect.keepsIndex (e : Effect op s u) (other : op ∉ indexOps) : s.KeepsIndex u := by
  simp only [indexOps, List.mem_cons, List.not_mem_nil, or_false, not_or] at other
  obtain ⟨reset, memWrite, bhInit, bhAddThrough⟩ := other
  obtain ⟨-, extent, blocks, source⟩ := e.dictionaryFrame reset
  obtain ⟨ready, size, offset⟩ := extent bhInit
  obtain ⟨head, next, last, lastEnd⟩ := blocks (not_or.mpr ⟨bhInit, bhAddThrough⟩)
  exact ⟨e.params_eq, ready, size, offset, head, next, last, lastEnd, fun a _ => source memWrite a⟩

/-- Every update a command completes with keeps the index exact, and all but RESET keep the bytes under it. -/
theorem Effect.indexInv (e : Effect op s u) (h : s.IndexInv) :
    u.IndexInv ∧ (op = 0x01 ∨ s.KeepsIndexedBytes u) := by
  by_cases owner : op ∈ indexOps
  case neg => exact h.kept (e.keepsIndex owner)
  case pos =>
    cases e with
    | same => exact ⟨h, .inr (.refl s)⟩
    | reset => exact ⟨State.indexInv_fullReset h.block_pos, .inl rfl⟩
    | memWrite _ sp a v _ _ mutable => exact h.kept (h.keepsIndex_writeByte v mutable)
    | bhInit _ size offset inside bias =>
      exact ⟨State.indexInv_newIndex h.block_pos inside bias false, .inr fun _ _ => rfl⟩
    | bhPopulate _ size offset inside bias =>
      exact ⟨State.indexInv_newIndex h.block_pos inside bias true,
        .inr fun a _ => State.readByte_congr (sp := .src) (by simp [State.mem]) (by simp) a⟩
    | bhAddThrough _ stop ready above le =>
      have end_ge := h.end_ge
      exact ⟨(h.addBlocksThrough ready stop.toNat).inv.setLastEnd (by omega) (by simpa using le),
        .inr fun a _ => State.readByte_congr (sp := .src) (by simp [State.mem]) (by simp) a⟩
    | varintEnc _ _ _ isEnc => obtain rfl | rfl := isEnc <;> exact absurd owner (by decide)
    | parse _ _ _ isParse => obtain rfl | rfl | rfl := isParse <;> exact absurd owner (by decide)
    | accumulate _ _ _ _ _ _ _ _ _ which =>
      obtain ⟨rfl, -⟩ | ⟨rfl, -⟩ | ⟨rfl, -⟩ := which <;> exact absurd owner (by decide)
    | _ => exact absurd owner (by decide)

theorem State.KeepsIndex.respond (r : Response) (s : State) : s.KeepsIndex (s.respond r) :=
  ⟨rfl, rfl, rfl, rfl, rfl, rfl, rfl, rfl, fun _ _ => rfl⟩

theorem State.KeepsIndex.takeFault (op : Byte) (c : Cause) (info : Field) (s : State) :
    s.KeepsIndex (s.takeFault op c info) :=
  ⟨by simp, by simp, by simp, by simp, by simp, by simp, by simp, by simp,
    fun a _ => s.readByte_takeFault op c info .src a⟩

/-- However a command ends, it keeps the index exact, and all but RESET keep the bytes under it. -/
theorem Ending.indexInv (e : Ending op s t) (h : s.IndexInv) :
    t.IndexInv ∧ (op = 0x01 ∨ s.KeepsIndexedBytes t) := by
  cases e with
  | refused => exact h.kept (.respond _ s)
  | completed _ u r0 r1 r2 r3 effect =>
    obtain ⟨inv, bytes⟩ := effect.indexInv h
    exact ⟨inv.of_keepsIndex (.respond _ u), bytes⟩
  | endOfData => exact h.kept (.respond _ s)
  | fault _ c info => exact h.kept (.takeFault op c info s)

end Effect

/-- Settles O56, from what each ending of a command keeps. -/
theorem stepKeepsIndex : Obligations.StepKeepsIndex := by
  intro s t h stepped
  obtain ⟨-, rfl⟩ | ⟨rest, hs, rfl⟩ | ⟨rest, r, hs, rfl⟩ | ⟨w, rest, hs, ending⟩ := step_next stepped
  · exact ⟨h, .inr (.inr fun _ _ => rfl)⟩
  · exact ⟨State.indexInv_fullReset h.block_pos, .inl ⟨rest, hs⟩⟩
  · exact ⟨{ h with }, .inr (.inr fun _ _ => rfl)⟩
  · have presented : { s with inputs := rest }.IndexInv := { h with }
    obtain ⟨inv, bytes⟩ := ending.indexInv presented
    exact ⟨inv, .inr (bytes.imp (fun reset => ⟨w, rest, hs, reset⟩) id)⟩

end Sys2Proof.Machine

/-! ## The search of the block index: its chains, the walk commands and the best match (42_block_hash.md)

While the index is exact, a chain is the blocks of its bucket below its start, the newest first. So the walk
answers the newest confirmed block of the bucket (O26), and with the probe's hash the search of BH_FIND_BEST
visits the blocks with the probe's bytes (O29). A match is extended by runs of equal bytes (O30), so whatever
block it comes from it is true (O28). -/

namespace Sys2Proof.Machine

/-! ### Extending a match -/

theorem runLength_succ (p : Nat → Bool) (turns j : Nat) :
    runLength p (turns + 1) j = if p j then runLength p turns (j + 1) + 1 else 0 := rfl

/-- Each number a run counts satisfies the predicate. -/
theorem runLength_holds {p : Nat → Bool} {turns j i : Nat} (lt : i < runLength p turns j) :
    p (j + i) = true := by
  induction turns generalizing j i with
  | zero => exact absurd lt (Nat.not_lt_zero i)
  | succ turns ih =>
    rw [runLength_succ] at lt
    split at lt
    case isTrue first =>
      cases i with
      | zero => exact first
      | succ i => rw [← Nat.succ_add_eq_add_succ]; exact ih (Nat.lt_of_succ_lt_succ lt)
    case isFalse => exact absurd lt (Nat.not_lt_zero i)

/-- A run shorter than it may be ends at a number that does not satisfy the predicate. -/
theorem runLength_stops {p : Nat → Bool} {turns j : Nat} (lt : runLength p turns j < turns) :
    p (j + runLength p turns j) = false := by
  induction turns generalizing j with
  | zero => exact absurd lt (Nat.not_lt_zero _)
  | succ turns ih =>
    rw [runLength_succ] at lt ⊢
    split at lt
    case isTrue first =>
      rw [if_pos first, ← Nat.succ_add_eq_add_succ]
      exact ih (Nat.lt_of_succ_lt_succ lt)
    case isFalse stops => rw [if_neg stops]; exact Bool.not_eq_true _ ▸ stops

section Extensions

variable (s : State) (a tpos : Nat)

theorem State.extendLeft_le_tgt : s.extendLeft a tpos ≤ tpos - s.tgtLo :=
  (runLength_le _ _ _).trans (Nat.min_le_right _ _)

theorem State.extendRight_le_tgt : s.extendRight a tpos ≤ s.tgtSize - (tpos + s.params.b) :=
  (runLength_le _ _ _).trans (Nat.min_le_right _ _)

/-- The bytes a match is extended by to the left agree (rule R158). -/
theorem State.extendLeft_agrees {j : Nat} (pos : 1 ≤ j) (le : j ≤ s.extendLeft a tpos) :
    s.readByte .src (a - j) = s.readByte .tgt (tpos - j) := by
  obtain ⟨i, rfl⟩ := Nat.exists_eq_add_of_le pos
  exact beq_iff_eq.mp (runLength_holds (i := i) (Nat.one_add_le_iff.mp le))

/-- The bytes a match is extended by to the right agree (rule R158). -/
theorem State.extendRight_agrees {j : Nat} (lt : j < s.extendRight a tpos) :
    s.readByte .src (a + s.params.b + j) = s.readByte .tgt (tpos + s.params.b + j) := by
  have := runLength_holds lt
  rw [Nat.zero_add] at this
  exact beq_iff_eq.mp this

theorem State.extendLeft_stops (src : s.extendLeft a tpos < a) (tgt : s.extendLeft a tpos < tpos - s.tgtLo) :
    s.readByte .src (a - (s.extendLeft a tpos + 1)) ≠ s.readByte .tgt (tpos - (s.extendLeft a tpos + 1)) := by
  have := runLength_stops (lt_min src tgt)
  rw [Nat.add_comm] at this
  exact beq_eq_false_iff_ne.mp this

theorem State.extendRight_stops (src : s.extendRight a tpos < s.srcSize - (a + s.params.b))
    (tgt : s.extendRight a tpos < s.tgtSize - (tpos + s.params.b)) :
    s.readByte .src (a + s.params.b + s.extendRight a tpos) ≠
      s.readByte .tgt (tpos + s.params.b + s.extendRight a tpos) := by
  have := runLength_stops (lt_min src tgt)
  rw [Nat.zero_add] at this
  exact beq_eq_false_iff_ne.mp this

end Extensions

/-- Settles O30, from the run of equal bytes on each side. -/
theorem extensionsAreLargest : Obligations.ExtensionsAreLargest := fun s a tpos =>
  ⟨⟨s.extendLeft_le a tpos, s.extendLeft_le_tgt a tpos, fun _ => s.extendLeft_agrees a tpos,
      s.extendLeft_stops a tpos⟩,
    s.extendRight_le a tpos, s.extendRight_le_tgt a tpos, fun _ => s.extendRight_agrees a tpos,
    s.extendRight_stops a tpos⟩

/-! ### The commands -/

section Commands

variable {s : State}

theorem State.not_windowInside {offset size : Nat} (outside : max32 < offset ∨ size < offset + s.params.b) :
    ¬ s.windowInside offset size = true := by
  rw [State.windowInside_iff]
  omega

theorem exec_bhFirstMatch_of_ready (ready : s.bhReady = true) (a0 a1 : Field) :
    exec (.bhFirstMatch a0 a1) s = command 0x32 s
      (if 2 ^ s.params.w ≤ u64 a0 then .raise .badOperand a0
       else if s.windowInside (u64 a1) s.tgtSize then
         .ok s (blockResult (s.skip (u64 a1) (s.chainHead (u64 a0)))) 0 0 0
       else .raise .badOperand a1) :=
  command_initialized ready 0x32 _

theorem exec_bhNextMatch_of_ready (ready : s.bhReady = true) (a0 a1 : Field) :
    exec (.bhNextMatch a0 a1) s = command 0x33 s
      (if s64 a0 < 0 ∨ s.bhLastBlock < s64 a0 then .raise .badOperand a0
       else if s.windowInside (u64 a1) s.tgtSize then
         .ok s (blockResult (s.skip (u64 a1) (Sparse.lookup (u64 a0) s.bhNext))) 0 0 0
       else .raise .badOperand a1) :=
  command_initialized ready 0x33 _

theorem exec_bhFindBest_of_ready (ready : s.bhReady = true) (a0 a1 : Field) :
    exec (.bhFindBest a0 a1) s = command 0x34 s
      (if 2 ^ s.params.w ≤ u64 a0 then .raise .badOperand a0
       else if s.windowInside (u64 a1) s.tgtSize && decide (s.tgtLo ≤ u64 a1) then
         let t := s.findBest (u64 a0) (u64 a1)
         .ok t (sfield t.bmSrc) (field t.bmTgt) (field t.bmSize) 0
       else .raise .badOperand a1) :=
  command_initialized ready 0x34 _

theorem exec_bhFindBest_of_probe_outside (running : s.failed = false) (ready : s.bhReady = true)
    {a0 a1 : Field} (hash : u64 a0 < 2 ^ s.params.w)
    (outside : ¬ (s.windowInside (u64 a1) s.tgtSize = true ∧ s.tgtLo ≤ u64 a1)) :
    exec (.bhFindBest a0 a1) s = .next (s.takeFault 0x34 .badOperand a1) := by
  rw [exec_bhFindBest_of_ready ready, if_neg (not_le.mpr hash), if_neg (by simpa using outside),
    command_raise (.inl running)]

end Commands

/-- Settles O27: each check of the three commands in its order. -/
theorem searchFaults : Obligations.SearchFaults := by
  intro s a0 a1 running
  refine ⟨fun notReady => ⟨command_notInitialized running notReady 0x32 _,
    command_notInitialized running notReady 0x33 _, command_notInitialized running notReady 0x34 _⟩,
    fun ready => ⟨fun large => ⟨?firstHash, ?bestHash⟩, fun noBlock => ?block,
      fun outside => ⟨fun hash => ⟨?firstProbe, ?bestProbe⟩, fun ge le => ?nextProbe⟩,
      fun hash low => exec_bhFindBest_of_probe_outside running ready hash fun inside =>
        absurd inside.2 (not_le.mpr low)⟩⟩
  case firstHash => rw [exec_bhFirstMatch_of_ready ready, if_pos large, command_raise (.inl running)]
  case bestHash => rw [exec_bhFindBest_of_ready ready, if_pos large, command_raise (.inl running)]
  case block => rw [exec_bhNextMatch_of_ready ready, if_pos noBlock, command_raise (.inl running)]
  all_goals have lacks : ¬ s.windowInside (u64 a1) s.tgtSize = true := State.not_windowInside outside
  case firstProbe =>
    rw [exec_bhFirstMatch_of_ready ready, if_neg (not_le.mpr hash), if_neg lacks,
      command_raise (.inl running)]
  case bestProbe => exact exec_bhFindBest_of_probe_outside running ready hash fun inside => lacks inside.1
  case nextProbe =>
    rw [exec_bhNextMatch_of_ready ready, if_neg (by omega), if_neg lacks, command_raise (.inl running)]

/-! ### The newest number below a bound -/

/-- The numbers below `n`, the greatest first. -/
def downFrom (n : Nat) : List Nat := (List.range n).reverse

theorem downFrom_succ (n : Nat) : downFrom (n + 1) = n :: downFrom n := by
  rw [downFrom, List.range_succ, List.reverse_concat, downFrom]

theorem mem_downFrom {n k : Nat} : k ∈ downFrom n ↔ k < n := by
  rw [downFrom, List.mem_reverse, List.mem_range]

theorem pairwise_downFrom (n : Nat) : (downFrom n).Pairwise (· > ·) :=
  List.pairwise_reverse.mpr List.pairwise_lt_range

theorem head?_filter_downFrom (p : Nat → Bool) (n : Nat) :
    ((downFrom n).filter p).head? = newestBelow p n := by
  induction n with
  | zero => rfl
  | succ n ih =>
    rw [downFrom_succ, List.filter_cons, newestBelow, ← ih]
    split <;> rfl

theorem newestBelow_eq_none_iff {p : Nat → Bool} {n : Nat} :
    newestBelow p n = none ↔ ∀ k < n, ¬ p k = true := by
  rw [← head?_filter_downFrom, List.head?_eq_none_iff, List.filter_eq_nil_iff]
  simp only [mem_downFrom]

theorem newestBelow_spec {p : Nat → Bool} {n k : Nat} (h : newestBelow p n = some k) :
    k < n ∧ p k = true ∧ ∀ j, k < j → j < n → ¬ p j = true := by
  induction n with
  | zero => cases h
  | succ n ih =>
    unfold newestBelow at h
    split at h
    case isTrue top =>
      obtain rfl := Option.some.inj h
      exact ⟨Nat.lt_succ_self n, top, fun j above below => by omega⟩
    case isFalse notTop =>
      obtain ⟨lt, holds, newest⟩ := ih h
      refine ⟨lt.trans (Nat.lt_succ_self n), holds, fun j above below => ?_⟩
      obtain lower | rfl := Nat.lt_succ_iff_lt_or_eq.mp below
      · exact newest j above lower
      · exact notTop

section BlockResult

variable {p : Nat → Bool} {P : Nat → Prop} {n : Nat}

/-- A search that only finds what it should answers such a block or -1. -/
theorem blockResult_newestBelow_sound (sound : ∀ k, p k = true → P k) :
    blockResult (newestBelow p n) = sfield (-1) ∨
      ∃ k, blockResult (newestBelow p n) = field k ∧ k < n ∧ P k := by
  cases found : newestBelow p n with
  | none => exact .inl rfl
  | some k =>
    obtain ⟨lt, holds, -⟩ := newestBelow_spec found
    exact .inr ⟨k, rfl, lt, sound k holds⟩

/-- A search that finds exactly what it should answers the newest such block, or -1 where there is none. -/
theorem blockResult_newestBelow_exact (iff : ∀ k, p k = true ↔ P k) :
    (∃ k, blockResult (newestBelow p n) = field k ∧ k < n ∧ P k ∧ ∀ j, k < j → j < n → ¬ P j) ∨
      blockResult (newestBelow p n) = sfield (-1) ∧ ∀ j < n, ¬ P j := by
  simp only [← iff]
  cases found : newestBelow p n with
  | none => exact .inr ⟨rfl, newestBelow_eq_none_iff.mp found⟩
  | some k => exact .inl ⟨k, rfl, newestBelow_spec found⟩

end BlockResult

/-! ### The chains -/

theorem State.confirmed_iff {s : State} {tpos k : Nat} : s.confirmed tpos k = true ↔ s.SameBytes tpos k := by
  simp only [State.confirmed, State.SameBytes, List.all_eq_true, List.mem_range, beq_iff_eq]

/-- A block with the probe's bytes is in the bucket of the probe's hash (rule R168). -/
theorem State.SameBytes.bucketAt {s : State} {tpos k : Nat} (h : s.SameBytes tpos k) :
    s.bucketAt (k * s.params.b) = s.hashAt .tgt tpos % 2 ^ s.params.t := by
  rw [State.bucketAt, State.hashAt, State.hashAt, State.readBytes_congr h]

/-- Block `k` is in bucket `i` (rule R150). -/
def State.inBucket (s : State) (i k : Nat) : Bool := s.bucketAt (k * s.params.b) == i

theorem State.inBucket_iff {s : State} {i k : Nat} :
    s.inBucket i k = true ↔ s.bucketAt (k * s.params.b) = i := beq_iff_eq

section Chains

variable {s : State} {n : Nat}

/-- The chain from the newest block below `n` of a bucket: every block of it below `n`, the newest first (rule
R152). -/
theorem State.IndexInv.chainFrom_newestBlock (h : s.IndexInv) (ready : s.bhReady = true) (i : Nat)
    {turns : Nat} (enough : n ≤ turns) (indexed : (n : Int) ≤ s.bhLastBlock + 1) :
    chainFrom s.bhNext turns (s.newestBlock i n) = (downFrom n).filter (s.inBucket i) := by
  induction n generalizing turns with
  | zero => cases turns <;> rfl
  | succ n ih =>
    rw [State.newestBlock_succ, downFrom_succ]
    split
    case isTrue same =>
      obtain ⟨turns, rfl⟩ := Nat.exists_eq_add_of_le' (Nat.one_le_of_lt enough)
      rw [List.filter_cons_of_pos (State.inBucket_iff.mpr same), chainFrom,
        h.next_newest ready n (by omega), same, ih (by omega) (by omega)]
    case isFalse other =>
      rw [List.filter_cons_of_neg (mt State.inBucket_iff.mp other), ih (by omega) (by omega)]

/-- The candidates from the newest block below `n` of a bucket: every confirmed block of it below `n`, the
newest first (rule R155). -/
theorem State.IndexInv.candidates_newestBlock (h : s.IndexInv) (ready : s.bhReady = true) (tpos i : Nat)
    (indexed : (n : Int) ≤ s.bhLastBlock + 1) :
    s.candidates tpos (s.newestBlock i n) =
      (downFrom n).filter fun k => s.confirmed tpos k && s.inBucket i k := by
  rw [State.candidates, State.chain, h.chainFrom_newestBlock ready i (by omega) indexed, List.filter_filter]

theorem State.IndexInv.chainHead_eq (h : s.IndexInv) (ready : s.bhReady = true) (hash : Nat) :
    s.chainHead hash = s.newestBlock (hash % 2 ^ s.params.t) (s.bhLastBlock + 1).toNat :=
  h.head_newest ready _

/-- Of the blocks in the bucket of the probe's hash, the confirmed ones are those with the probe's bytes. -/
theorem State.confirmed_inBucket_iff {tpos i : Nat} (probe : i = s.hashAt .tgt tpos % 2 ^ s.params.t)
    (k : Nat) : (s.confirmed tpos k && s.inBucket i k) = true ↔ s.SameBytes tpos k := by
  rw [Bool.and_eq_true, State.confirmed_iff, State.inBucket_iff, probe]
  exact and_iff_left_of_imp State.SameBytes.bucketAt

end Chains

/-! ### The walk commands -/

section Walk

variable {s : State} {tpos i n : Nat}

/-- The block a walk answers, from the newest block below `n` of bucket `i` on (rule R155). -/
theorem State.IndexInv.skip_newestBlock (h : s.IndexInv) (ready : s.bhReady = true)
    (indexed : (n : Int) ≤ s.bhLastBlock + 1) :
    s.skip tpos (s.newestBlock i n) = newestBelow (fun k => s.confirmed tpos k && s.inBucket i k) n := by
  rw [State.skip, h.candidates_newestBlock ready tpos i indexed, head?_filter_downFrom]

variable {a0 a1 : Field}

theorem exec_bhFirstMatch_eq (running : s.failed = false) (ready : s.bhReady = true) (h : s.IndexInv)
    (hash : u64 a0 < 2 ^ s.params.w) (word : u64 a1 ≤ max32) (inside : u64 a1 + s.params.b ≤ s.tgtSize) :
    exec (.bhFirstMatch a0 a1) s = .next (s.respond (Response.okay (blockResult (newestBelow
      (fun k => s.confirmed (u64 a1) k && s.inBucket (u64 a0 % 2 ^ s.params.t) k)
      (s.bhLastBlock + 1).toNat)) 0 0 0)) := by
  have last_ge := h.last_ge
  rw [exec_bhFirstMatch_of_ready ready, if_neg (not_le.mpr hash),
    if_pos (State.windowInside_iff.mpr ⟨word, inside⟩), command_ok (.inl running), h.chainHead_eq ready,
    h.skip_newestBlock ready (by omega)]

theorem exec_bhNextMatch_eq (running : s.failed = false) (ready : s.bhReady = true) (h : s.IndexInv)
    (ge : 0 ≤ s64 a0) (le : s64 a0 ≤ s.bhLastBlock) (word : u64 a1 ≤ max32)
    (inside : u64 a1 + s.params.b ≤ s.tgtSize) :
    exec (.bhNextMatch a0 a1) s = .next (s.respond (Response.okay (blockResult (newestBelow
      (fun k => s.confirmed (u64 a1) k && s.inBucket (s.bucketAt (u64 a0 * s.params.b)) k)
      (u64 a0))) 0 0 0)) := by
  have block : (u64 a0 : Int) ≤ s.bhLastBlock := s64_of_nonneg ge ▸ le
  rw [exec_bhNextMatch_of_ready ready, if_neg (by omega), if_pos (State.windowInside_iff.mpr ⟨word, inside⟩),
    command_ok (.inl running), h.next_newest ready _ block, h.skip_newestBlock ready (by omega)]

end Walk

/-- Settles O26: each command answers the newest block found below its bound, and with the probe's bucket the
blocks found are those with the probe's bytes. -/
theorem walkFindsNewestEqualBlock : Obligations.WalkFindsNewestEqualBlock := by
  intro s a0 a1 running ready h word inside
  have sound (i k : Nat) (found : (s.confirmed a1.toNat k && s.inBucket i k) = true) :
      s.SameBytes a1.toNat k := State.confirmed_iff.mp (Bool.and_eq_true_iff.mp found).1
  have indexed (k : Nat) : (k : Int) ≤ s.bhLastBlock ↔ k < (s.bhLastBlock + 1).toNat := by omega
  simp only [indexed]
  exact ⟨fun hash => ⟨_, exec_bhFirstMatch_eq running ready h hash word inside,
      blockResult_newestBelow_sound (sound _), fun probe =>
        blockResult_newestBelow_exact (State.confirmed_inBucket_iff (congrArg (· % 2 ^ s.params.t) probe))⟩,
    fun ge le => ⟨_, exec_bhNextMatch_eq running ready h ge le word inside,
      blockResult_newestBelow_sound (sound _), fun same =>
        blockResult_newestBelow_exact (State.confirmed_inBucket_iff same.bucketAt)⟩⟩

/-! ### The best match -/

/-- The best match is `size` bytes at `src` and `tgt` after the candidates `ks` were tried at `s` for the
probe at `tpos`: the largest, of equal sizes the one already there and then the newest (rules R160, R161). -/
structure State.BestMatch (s : State) (tpos : Nat) (ks : List Nat) (src : Int) (tgt size : Nat) : Prop where
  old_le : s.bmSize ≤ size
  match_le : ∀ k ∈ ks, s.matchSize tpos k ≤ size
  origin : (src = s.bmSrc ∧ tgt = s.bmTgt ∧ size = s.bmSize) ∨
    ∃ k ∈ ks, s.bmSize < size ∧ size = s.matchSize tpos k ∧
      src = ((k * s.params.b - s.extendLeft (k * s.params.b) tpos + s.bhStartOffset : Nat) : Int) ∧
      tgt = tpos - s.extendLeft (k * s.params.b) tpos ∧
      ∀ j ∈ ks, k < j → s.matchSize tpos j < size

/-- The state after a search: the best match written, nothing else. -/
def State.withBest (s : State) (src : Int) (tgt size : Nat) : State :=
  { s with bmSrc := src, bmTgt := tgt, bmSize := size }

/-- Trying a candidate, whatever the best match is so far: its own match depends on the buffers alone. -/
theorem State.tryCandidate_withBest (s : State) (tpos k : Nat) (src : Int) (tgt size : Nat) :
    (s.withBest src tgt size).tryCandidate tpos k =
      if size < s.matchSize tpos k then
        s.withBest ((k * s.params.b - s.extendLeft (k * s.params.b) tpos + s.bhStartOffset : Nat) : Int)
          (tpos - s.extendLeft (k * s.params.b) tpos) (s.matchSize tpos k)
      else s.withBest src tgt size := rfl

section BestMatch

variable {s : State} {tpos k : Nat} {ks : List Nat} {src : Int} {tgt size : Nat}

/-- A larger match of one more candidate becomes the best (rule R161). -/
theorem State.BestMatch.concat_larger (h : s.BestMatch tpos ks src tgt size)
    (larger : size < s.matchSize tpos k) :
    s.BestMatch tpos (ks ++ [k])
      ((k * s.params.b - s.extendLeft (k * s.params.b) tpos + s.bhStartOffset : Nat) : Int)
      (tpos - s.extendLeft (k * s.params.b) tpos) (s.matchSize tpos k) where
  old_le := h.old_le.trans larger.le
  match_le j hj := by
    obtain mem | last := List.mem_append.mp hj
    · exact (h.match_le j mem).trans larger.le
    · rw [List.mem_singleton.mp last]
  origin := by
    refine .inr ⟨k, List.mem_append_right ks List.mem_cons_self, h.old_le.trans_lt larger, rfl, rfl, rfl,
      fun j hj newer => ?_⟩
    obtain mem | last := List.mem_append.mp hj
    · exact (h.match_le j mem).trans_lt larger
    · exact absurd (List.mem_singleton.mp last) newer.ne'

/-- Another match of one more candidate, older than those before, leaves the best as it is (rule R161). -/
theorem State.BestMatch.concat_of_le (h : s.BestMatch tpos ks src tgt size) (older : ∀ j ∈ ks, j > k)
    (le : s.matchSize tpos k ≤ size) : s.BestMatch tpos (ks ++ [k]) src tgt size where
  old_le := h.old_le
  match_le j hj := by
    obtain mem | last := List.mem_append.mp hj
    · exact h.match_le j mem
    · rwa [List.mem_singleton.mp last]
  origin := by
    refine h.origin.imp_right ?_
    rintro ⟨best, mem, larger, size_eq, src_eq, tgt_eq, ties⟩
    refine ⟨best, List.mem_append_left _ mem, larger, size_eq, src_eq, tgt_eq, fun j hj newer => ?_⟩
    obtain mem' | last := List.mem_append.mp hj
    · exact ties j mem' newer
    · exact absurd newer (List.mem_singleton.mp last ▸ older best mem).asymm

/-- The candidates in chain order, the newest first, leave the best of them and of the match before. -/
theorem State.foldl_tryCandidate_best (newestFirst : ks.Pairwise (· > ·)) :
    ∃ src tgt size, ks.foldl (State.tryCandidate tpos) s = s.withBest src tgt size ∧
      s.BestMatch tpos ks src tgt size := by
  induction ks using List.reverseRecOn with
  | nil => exact ⟨_, _, _, rfl, le_refl _, List.forall_mem_nil _, .inl ⟨rfl, rfl, rfl⟩⟩
  | append_singleton ks k ih =>
    obtain ⟨before, -, older⟩ := List.pairwise_append.mp newestFirst
    obtain ⟨src, tgt, size, folded, best⟩ := ih before
    simp only [List.foldl_concat, folded, State.tryCandidate_withBest]
    split
    case isTrue larger => exact ⟨_, _, _, rfl, best.concat_larger larger⟩
    case isFalse notLarger =>
      exact ⟨src, tgt, size, rfl,
        best.concat_of_le (fun j hj => older j hj k List.mem_cons_self) (not_lt.mp notLarger)⟩

end BestMatch

section FindBest

variable {s : State} {tpos : Nat}

/-- The candidates BH_FIND_BEST tries: the confirmed blocks of the bucket, the newest first, no more than
MAX_MATCHES of them (rules R160, R162). -/
theorem State.IndexInv.candidates_chainHead (h : s.IndexInv) (ready : s.bhReady = true) (tpos hash : Nat) :
    s.candidates tpos (s.chainHead hash) = (downFrom (s.bhLastBlock + 1).toNat).filter
      fun k => s.confirmed tpos k && s.inBucket (hash % 2 ^ s.params.t) k := by
  have last_ge := h.last_ge
  rw [h.chainHead_eq ready, h.candidates_newestBlock ready tpos _ (by omega)]

/-- With the probe's hash they are the blocks with the probe's bytes (rule R168). -/
theorem State.IndexInv.candidates_of_probe (h : s.IndexInv) (ready : s.bhReady = true) {hash : Nat}
    (probe : hash = s.hashAt .tgt tpos) :
    s.candidates tpos (s.chainHead hash) = s.equalBlocks tpos := by
  rw [h.candidates_chainHead ready, State.equalBlocks, ← downFrom]
  refine List.filter_congr fun k _ => Bool.eq_iff_iff.mpr ?_
  rw [State.confirmed_inBucket_iff (congrArg (· % 2 ^ s.params.t) probe), State.confirmed_iff]

/-- BH_FIND_BEST answers with the best match of its candidates written (rule R160). -/
theorem exec_bhFindBest_best (running : s.failed = false) (ready : s.bhReady = true) (h : s.IndexInv)
    {a0 a1 : Field} (hash : u64 a0 < 2 ^ s.params.w) (word : u64 a1 ≤ max32) (low : s.tgtLo ≤ u64 a1)
    (inside : u64 a1 + s.params.b ≤ s.tgtSize) :
    ∃ src tgt size, exec (.bhFindBest a0 a1) s = .next ((s.withBest src tgt size).respond
        (Response.okay (sfield src) (field tgt) (field size) 0)) ∧
      s.BestMatch (u64 a1) ((s.candidates (u64 a1) (s.chainHead (u64 a0))).take s.params.maxMatches)
        src tgt size := by
  have newestFirst : (s.candidates (u64 a1) (s.chainHead (u64 a0))).Pairwise (· > ·) := by
    rw [h.candidates_chainHead ready]
    exact (pairwise_downFrom _).filter _
  obtain ⟨src, tgt, size, found, best⟩ :=
    State.foldl_tryCandidate_best (s := s) (tpos := u64 a1)
      (newestFirst.sublist (List.take_sublist s.params.maxMatches _))
  refine ⟨src, tgt, size, ?_, best⟩
  have checks : (s.windowInside (u64 a1) s.tgtSize && decide (s.tgtLo ≤ u64 a1)) = true := by
    rw [Bool.and_eq_true, State.windowInside_iff, decide_eq_true_iff]
    exact ⟨⟨word, inside⟩, low⟩
  rw [exec_bhFindBest_of_ready ready, if_neg (not_le.mpr hash), if_pos checks, State.findBest, found]
  exact command_ok (.inl running) _ _ _ _ _

/-- The match of a confirmed block: its bytes agree from its start to its end (rules R158, R159, R164). -/
theorem State.SameBytes.match_agrees {k : Nat} (same : s.SameBytes tpos k) (low : s.tgtLo ≤ tpos) {j : Nat}
    (lt : j < s.matchSize tpos k) :
    s.readByte .src (k * s.params.b - s.extendLeft (k * s.params.b) tpos + j) =
      s.readByte .tgt (tpos - s.extendLeft (k * s.params.b) tpos + j) := by
  have src_le := s.extendLeft_le (k * s.params.b) tpos
  have tgt_le := s.extendLeft_le_tgt (k * s.params.b) tpos
  unfold State.matchSize at lt
  generalize left : s.extendLeft (k * s.params.b) tpos = n at *
  rcases lt_or_ge j n with before | notBefore
  · have agrees := s.extendLeft_agrees (k * s.params.b) tpos (j := n - j) (by omega) (by omega)
    rwa [show k * s.params.b - (n - j) = k * s.params.b - n + j by omega,
      show tpos - (n - j) = tpos - n + j by omega] at agrees
  rcases lt_or_ge j (n + s.params.b) with within | after
  · have agrees := same (j - n) (by omega)
    rwa [show k * s.params.b + (j - n) = k * s.params.b - n + j by omega,
      show tpos + (j - n) = tpos - n + j by omega] at agrees
  · have agrees := s.extendRight_agrees (k * s.params.b) tpos (j := j - (n + s.params.b)) (by omega)
    rwa [show k * s.params.b + s.params.b + (j - (n + s.params.b)) = k * s.params.b - n + j by omega,
      show tpos + s.params.b + (j - (n + s.params.b)) = tpos - n + j by omega] at agrees

/-- The match of a block inside SRC_SIZE, for a probe inside the target, lies inside both buffers (rules R158,
R165). -/
theorem State.match_inside {k : Nat} (block : k * s.params.b + s.params.b ≤ s.srcSize) (low : s.tgtLo ≤ tpos)
    (probe : tpos + s.params.b ≤ s.tgtSize) :
    s.params.b ≤ s.matchSize tpos k ∧ s.tgtLo ≤ tpos - s.extendLeft (k * s.params.b) tpos ∧
      tpos - s.extendLeft (k * s.params.b) tpos + s.matchSize tpos k ≤ s.tgtSize ∧
      k * s.params.b - s.extendLeft (k * s.params.b) tpos + s.matchSize tpos k ≤ s.srcSize := by
  have := s.extendLeft_le (k * s.params.b) tpos
  have := s.extendLeft_le_tgt (k * s.params.b) tpos
  have := s.extendRight_le (k * s.params.b) tpos
  have := s.extendRight_le_tgt (k * s.params.b) tpos
  unfold State.matchSize
  omega

end FindBest

/-- Settles O28: the best match is the one before, or that of a candidate, which is confirmed and inside
SRC_SIZE. -/
theorem findBestReportsTrueMatches : Obligations.FindBestReportsTrueMatches := by
  intro s a0 a1 running ready h hash word low inside
  obtain ⟨src, tgt, size, answers, best⟩ := exec_bhFindBest_best running ready h hash word low inside
  refine ⟨src, tgt, size, answers, best.origin.imp_right ?_⟩
  rintro ⟨k, tried, larger, rfl, rfl, rfl, -⟩
  have candidate := List.mem_of_mem_take tried
  have same : s.SameBytes a1.toNat k := State.confirmed_iff.mp (List.mem_filter.mp candidate).2
  obtain ⟨b_le, lo_le, tgt_inside, src_inside⟩ :=
    State.match_inside (h.candidates_inside ready _ _ candidate) low inside
  exact ⟨larger, b_le, lo_le, Nat.sub_le _ _, tgt_inside, _, rfl, src_inside,
    fun j lt => same.match_agrees low lt⟩

/-- Settles O29: with the probe's hash the candidates are the blocks with the probe's bytes. -/
theorem findBestKeepsTheLargest : Obligations.FindBestKeepsTheLargest := by
  intro s a0 a1 running ready h _ probe word low inside
  have hash : a0.toNat < 2 ^ s.params.w := probe ▸ hashOf_lt _ _
  obtain ⟨src, tgt, size, answers, best⟩ := exec_bhFindBest_best running ready h hash word low inside
  rw [h.candidates_of_probe ready probe] at best
  exact ⟨src, tgt, size, answers, best.old_le, best.match_le, best.origin⟩

end Sys2Proof.Machine


/-! ## The address cache: its update, the choice of an encoding, and the decoder (43_address_cache.md)

The candidates of an encode stand in a list of rising modes, so taking the first of the shortest takes the
lowest mode of those (O32). Every candidate, chosen or not, decodes to the address it stands for, and encoder
and decoder update the cache with that same address; so the round trip is an induction on the sequence, in
which the two caches are one (O35). -/

namespace Sys2Proof.Machine

/-! ### Update -/

section Update

variable (c : AddrCache) (addr : Nat)

@[simp] theorem AddrCache.nearSize_update : (c.update addr).nearSize = c.nearSize := rfl

@[simp] theorem AddrCache.sameSize_update : (c.update addr).sameSize = c.sameSize := rfl

variable {c}

theorem AddrCache.nextSlot_update_of_pos (pos : 0 < c.nearSize) :
    (c.update addr).nextSlot = (c.nextSlot + 1) % c.nearSize := if_pos pos

theorem AddrCache.near_update_of_pos (pos : 0 < c.nearSize) :
    (c.update addr).near = writeZero c.near c.nextSlot addr := if_pos pos

theorem AddrCache.nextSlot_update_of_zero (zero : c.nearSize = 0) : (c.update addr).nextSlot = c.nextSlot :=
  if_neg zero.not_gt

theorem AddrCache.near_update_of_zero (zero : c.nearSize = 0) : (c.update addr).near = c.near :=
  if_neg zero.not_gt

theorem AddrCache.same_update_of_pos (pos : 0 < c.sameSize) :
    (c.update addr).same = writeZero c.same (addr % (c.sameSize * 256)) addr := if_pos pos

theorem AddrCache.same_update_of_zero (zero : c.sameSize = 0) : (c.update addr).same = c.same :=
  if_neg zero.not_gt

/-- A cache of sizes (0, 0) has nothing to update (rule R180). -/
theorem AddrCache.update_of_sizes_zero (near : c.nearSize = 0) (same : c.sameSize = 0) :
    c.update addr = c := by
  rw [AddrCache.update, if_neg near.not_gt, if_neg near.not_gt, if_neg same.not_gt]

end Update

/-- Settles O31: each array is written at one entry, and the lists rise, so no other entry changes. -/
theorem cacheUpdate : Obligations.CacheUpdate := by
  intro c addr h
  refine ⟨rfl, rfl, fun pos => ⟨c.nextSlot_update_of_pos addr pos, fun i => ?near⟩,
    fun zero => ⟨c.nextSlot_update_of_zero addr zero, c.near_update_of_zero addr zero⟩,
    fun pos i => ?same, c.same_update_of_zero addr⟩
  case near => rw [c.near_update_of_pos addr pos, readZero_writeZero h.near_rising]
  case same => rw [c.same_update_of_pos addr pos, readZero_writeZero h.same_rising]

/-! ### Choose -/

section Choose

variable {c : AddrCache} {addr here : Nat}

theorem AddrChoice.eq_iff {ch : AddrChoice} {len mode value : Nat} :
    ch = { len, mode, value } ↔ ch.mode = mode ∧ ch.value = value ∧ ch.len = len := by
  rw [AddrChoice.mk.injEq]
  exact and_rotate

theorem AddrChoice.eq_varint_iff {ch : AddrChoice} {mode value : Nat} :
    ch = .varint mode value ↔ ch.mode = mode ∧ ch.value = value ∧ ch.len = varintLength value :=
  AddrChoice.eq_iff

theorem AddrCache.mem_nearChoices {ch : AddrChoice} :
    ch ∈ c.nearChoices addr ↔ ∃ i < c.nearSize, readZero c.near i ≤ addr ∧
      ch = .varint (2 + i) (addr - readZero c.near i) := by
  simp only [AddrCache.nearChoices, List.mem_map, List.mem_filter, List.mem_range, decide_eq_true_eq,
    and_assoc, @eq_comm _ ch]

theorem AddrCache.mem_sameChoices {ch : AddrChoice} :
    ch ∈ c.sameChoices addr ↔ 0 < c.sameSize ∧ readZero c.same (addr % (c.sameSize * 256)) = addr ∧
      ch = { len := 1, mode := 2 + c.nearSize + addr % (c.sameSize * 256) / 256,
             value := addr % (c.sameSize * 256) % 256 } := by
  rw [← and_assoc]
  by_cases hit : 0 < c.sameSize ∧ readZero c.same (addr % (c.sameSize * 256)) = addr <;>
    simp [AddrCache.sameChoices, hit]

/-- The list that is searched holds the candidates of rule R172. -/
theorem AddrCache.mem_choices_iff {ch : AddrChoice} :
    ch ∈ .varint 0 addr :: c.choices addr here ↔ c.Candidate addr here ch.mode ch.value ch.len := by
  simp only [AddrCache.choices, List.mem_cons, List.mem_append, AddrCache.mem_nearChoices,
    AddrCache.mem_sameChoices, AddrChoice.eq_varint_iff, AddrChoice.eq_iff, AddrCache.Candidate]

theorem AddrCache.nearChoices_ascending : (c.nearChoices addr).Pairwise (·.mode < ·.mode) :=
  List.pairwise_map.mpr ((List.pairwise_lt_range.filter _).imp (Nat.add_lt_add_left · 2))

theorem AddrCache.sameChoices_ascending : (c.sameChoices addr).Pairwise (·.mode < ·.mode) := by
  unfold AddrCache.sameChoices
  dsimp only
  split_ifs
  · exact List.pairwise_singleton _ _
  · exact List.Pairwise.nil

/-- The candidates are tried in ascending mode number (rule R173). -/
theorem AddrCache.choices_ascending :
    (.varint 0 addr :: c.choices addr here).Pairwise fun a b : AddrChoice => a.mode < b.mode := by
  have near : ∀ ch ∈ c.nearChoices addr, 2 ≤ ch.mode ∧ ch.mode < 2 + c.nearSize := fun ch mem => by
    obtain ⟨i, lt, -, rfl⟩ := AddrCache.mem_nearChoices.mp mem
    exact ⟨Nat.le_add_right 2 i, Nat.add_lt_add_left lt 2⟩
  have same : ∀ ch ∈ c.sameChoices addr, 2 + c.nearSize ≤ ch.mode := fun ch mem => by
    obtain ⟨-, -, rfl⟩ := AddrCache.mem_sameChoices.mp mem
    exact Nat.le_add_right _ _
  have later : ∀ ch ∈ c.nearChoices addr ++ c.sameChoices addr, 2 ≤ ch.mode := fun ch mem =>
    (List.mem_append.mp mem).elim (fun mem => (near ch mem).1) fun mem => le_of_add_le_left (same ch mem)
  refine List.pairwise_cons.mpr ⟨List.forall_mem_cons.mpr ⟨Nat.one_pos, fun ch mem => ?_⟩,
    List.pairwise_cons.mpr ⟨later, List.pairwise_append.mpr
      ⟨AddrCache.nearChoices_ascending, AddrCache.sameChoices_ascending, fun a mem b mem' =>
        (near a mem).2.trans_le (same b mem')⟩⟩⟩
  exact Nat.zero_lt_two.trans_le (later ch mem)

/-- `a` comes before `b` in the order of rule R173, or ties with it: the length, then the mode. -/
def AddrChoice.Precedes (a b : AddrChoice) : Prop := a.len < b.len ∨ a.len = b.len ∧ a.mode ≤ b.mode

theorem AddrChoice.Precedes.refl (a : AddrChoice) : a.Precedes a := .inr ⟨rfl, le_rfl⟩

theorem AddrChoice.Precedes.trans {a b d : AddrChoice} (hab : a.Precedes b) (hbd : b.Precedes d) :
    a.Precedes d := by
  unfold AddrChoice.Precedes at *
  omega

theorem AddrChoice.better_of_lt {a b : AddrChoice} (shorter : b.len < a.len) : a.better b = b := if_pos shorter

theorem AddrChoice.better_of_le {a b : AddrChoice} (le : a.len ≤ b.len) : a.better b = a :=
  if_neg (not_lt.mpr le)

/-- Of two candidates in ascending mode number, the better one is one of them and precedes both. -/
theorem AddrChoice.better_spec {a b : AddrChoice} (asc : a.mode < b.mode) :
    (a.better b = a ∨ a.better b = b) ∧ (a.better b).Precedes a ∧ (a.better b).Precedes b := by
  rcases lt_or_ge b.len a.len with shorter | le
  · rw [AddrChoice.better_of_lt shorter]
    exact ⟨.inr rfl, .inl shorter, .refl b⟩
  · rw [AddrChoice.better_of_le le]
    exact ⟨.inl rfl, .refl a, le.lt_or_eq.imp_right fun tie => ⟨tie, asc.le⟩⟩

/-- Replacing the best only by a strictly shorter one, in ascending mode number, finds the first in the order
of rule R173. -/
theorem AddrChoice.foldl_better_spec {best : AddrChoice} {l : List AddrChoice}
    (asc : (best :: l).Pairwise fun a b => a.mode < b.mode) :
    l.foldl AddrChoice.better best ∈ best :: l ∧
      ∀ ch ∈ best :: l, (l.foldl AddrChoice.better best).Precedes ch := by
  induction l generalizing best with
  | nil => exact ⟨List.mem_singleton_self _, List.forall_mem_singleton.mpr (.refl best)⟩
  | cons next rest ih =>
    obtain ⟨first, ascNext⟩ := List.pairwise_cons.mp asc
    obtain ⟨ltNext, ltRest⟩ := List.forall_mem_cons.mp first
    obtain ⟨either, leBest, leNext⟩ := AddrChoice.better_spec ltNext
    have ascBetter : (best.better next :: rest).Pairwise fun a b => a.mode < b.mode := by
      obtain same | same := either <;> rw [same]
      · exact List.pairwise_cons.mpr ⟨ltRest, ascNext.of_cons⟩
      · exact ascNext
    obtain ⟨mem, least⟩ := ih ascBetter
    obtain ⟨leBetter, leRest⟩ := List.forall_mem_cons.mp least
    refine ⟨?_, List.forall_mem_cons.mpr ⟨leBetter.trans leBest,
      List.forall_mem_cons.mpr ⟨leBetter.trans leNext, leRest⟩⟩⟩
    rw [List.foldl_cons]
    obtain same | same := either <;> rw [same] at mem ⊢
    · exact List.mem_cons.mpr ((List.mem_cons.mp mem).imp_right (List.mem_cons_of_mem _))
    · exact List.mem_cons_of_mem _ mem

theorem AddrCache.choose_candidate (c : AddrCache) (addr here : Nat) :
    c.Candidate addr here (c.choose addr here).mode (c.choose addr here).value (c.choose addr here).len :=
  AddrCache.mem_choices_iff.mp (AddrChoice.foldl_better_spec AddrCache.choices_ascending).1

theorem AddrCache.choose_precedes {mode value len : Nat} (candidate : c.Candidate addr here mode value len) :
    (c.choose addr here).Precedes { len, mode, value } :=
  (AddrChoice.foldl_better_spec AddrCache.choices_ascending).2 _ (AddrCache.mem_choices_iff.mpr candidate)

/-- A cache of sizes (0, 0) chooses between SELF and HERE (rule R180). -/
theorem AddrCache.choose_of_sizes_zero (near : c.nearSize = 0) (same : c.sameSize = 0) :
    c.choose addr here = (AddrChoice.varint 0 addr).better (.varint 1 (here - addr)) := by
  simp [AddrCache.choose, AddrCache.choices, AddrCache.nearChoices, AddrCache.sameChoices, near, same]

end Choose

/-- Settles O32: the choice is one of the candidates and precedes each of them. -/
theorem chooseIsShortest : Obligations.ChooseIsShortest := by
  refine ⟨fun c addr here _ _ _ => ⟨c.choose_candidate addr here, fun _ _ _ => AddrCache.choose_precedes⟩,
    fun c addr here near same =>
      ⟨c.update_of_sizes_zero addr near same, fun shorter => ?here, fun le => ?self⟩⟩
  case here =>
    rw [AddrCache.choose_of_sizes_zero near same, AddrChoice.better_of_lt (by exact shorter)]
    exact ⟨rfl, rfl⟩
  case self =>
    rw [AddrCache.choose_of_sizes_zero near same, AddrChoice.better_of_le (by exact le)]
    exact ⟨rfl, rfl⟩

/-! ### Decode, check by check -/

theorem addrInRange_eq (addr here : Int) (q : Nat) :
    addrInRange addr here q =
      if 0 ≤ addr ∧ addr < here then .ok addr.toNat q else .error .addrOutOfRange := by
  by_cases inside : 0 ≤ addr ∧ addr < here
  · rw [if_pos inside, addrInRange, if_neg (by omega)]
  · rw [if_neg inside, addrInRange, if_pos (by omega)]

theorem addrInRange_of_lt {addr here : Nat} (q : Nat) (lt : addr < here) :
    addrInRange addr here q = .ok addr q := by
  rw [addrInRange_eq, if_pos ⟨Int.natCast_nonneg addr, Int.ofNat_lt.mpr lt⟩, Int.toNat_natCast]

section Decode

variable {c : AddrCache} {mem : Nat → Byte} {cursor limit : Nat} {here : Int} {mode v q : Nat}

theorem AddrCache.decodeValue_self : c.decodeValue here 0 v q = addrInRange v here q := rfl

theorem AddrCache.decodeValue_here : c.decodeValue here 1 v q = addrInRange (here - v) here q := rfl

theorem AddrCache.decodeValue_near_of_gt (near : 2 ≤ mode) (gt : max32 < readZero c.near (mode - 2) + v) :
    c.decodeValue here mode v q = .error .addrNearOverflow := by
  rw [AddrCache.decodeValue, if_neg (by omega), if_neg (by omega), if_pos gt]

theorem AddrCache.decodeValue_near_of_le (near : 2 ≤ mode) (le : readZero c.near (mode - 2) + v ≤ max32) :
    c.decodeValue here mode v q = addrInRange (readZero c.near (mode - 2) + v : Nat) here q := by
  rw [AddrCache.decodeValue, if_neg (by omega), if_neg (by omega), if_neg (not_lt.mpr le)]

theorem AddrCache.decode_of_badHere (bad : here ≤ 0 ∨ (max32 : Int) < here) :
    c.decode mem cursor limit here mode = .error .addrHereNonpositive := if_pos bad

variable (here_pos : 0 < here) (here_le : here ≤ max32)

include here_pos here_le

theorem AddrCache.decode_of_badMode (bad : c.lastMode < mode) :
    c.decode mem cursor limit here mode = .error .addrBadMode := by
  rw [AddrCache.decode, if_neg (by omega), if_pos bad]

/-- A SAME mode reads one byte. -/
theorem AddrCache.decode_same (le_last : mode ≤ c.lastMode) (same : 2 + c.nearSize ≤ mode) :
    c.decode mem cursor limit here mode =
      if limit ≤ cursor then .endOfData
      else addrInRange (readZero c.same ((mode - 2 - c.nearSize) * 256 + (mem cursor).toNat)) here
        (cursor + 1) := by
  rw [AddrCache.decode, if_neg (by omega), if_neg (not_lt.mpr le_last), if_pos same]

section OtherModes

variable (other : mode < 2 + c.nearSize)

include other

theorem AddrCache.decode_of_endOfData (ended : varintParse .w32 mem cursor limit = .endOfData) :
    c.decode mem cursor limit here mode = .endOfData := by
  rw [AddrCache.decode, if_neg (by omega), if_neg (by unfold AddrCache.lastMode; omega),
    if_neg (not_le.mpr other), ended]

theorem AddrCache.decode_of_malformed (malformed : varintParse .w32 mem cursor limit = .error) :
    c.decode mem cursor limit here mode = .error .varintOverflow := by
  rw [AddrCache.decode, if_neg (by omega), if_neg (by unfold AddrCache.lastMode; omega),
    if_neg (not_le.mpr other), malformed]

theorem AddrCache.decode_of_parsed (parsed : varintParse .w32 mem cursor limit = .ok v q) :
    c.decode mem cursor limit here mode = c.decodeValue here mode v q := by
  rw [AddrCache.decode, if_neg (by omega), if_neg (by unfold AddrCache.lastMode; omega),
    if_neg (not_le.mpr other), parsed]

end OtherModes

end Decode

/-- Settles O34, with one equation for each check. -/
theorem decodeChecksInOrder : Obligations.DecodeChecksInOrder := by
  intro c mem cursor limit here mode range d
  have in_range (addr : Int) (q : Nat) : addrInRange addr here q = range addr q := addrInRange_eq addr here q
  refine ⟨AddrCache.decode_of_badHere, fun pos le => ⟨AddrCache.decode_of_badMode pos le,
    fun le_last => ⟨fun same => ?same, fun other => ⟨AddrCache.decode_of_endOfData pos le other,
      AddrCache.decode_of_malformed pos le other, fun v q parsed => ?varint⟩⟩⟩⟩
  case same =>
    have answer := c.decode_same (mem := mem) (cursor := cursor) (limit := limit) pos le le_last same
    rw [in_range] at answer
    exact ⟨fun ended => answer.trans (if_pos ended), fun below => answer.trans (if_neg (not_le.mpr below))⟩
  case varint =>
    have answer : d = c.decodeValue here mode v q := AddrCache.decode_of_parsed pos le other parsed
    simp only [answer, ← in_range]
    refine ⟨?_, ?_, AddrCache.decodeValue_near_of_gt, AddrCache.decodeValue_near_of_le⟩
    · rintro rfl
      exact AddrCache.decodeValue_self
    · rintro rfl
      exact AddrCache.decodeValue_here

/-! ### AC_ENCODE and AC_DECODE -/

section Commands

variable {a0 a1 : Field} {s : State}

/-- While a session is open neither command is legal (rules R176, R178). -/
theorem exec_acEncode_of_open (running : s.failed = false) (opened : s.serState ≠ .uninit) :
    exec (.acEncode a0 a1) s = .next (s.takeFault 0x42 .badState (field s.serState.code)) := by
  change command 0x42 s (ite _ _ _) = _
  rw [if_pos opened, State.badState, command_raise (.inl running)]

theorem exec_acDecode_of_open (running : s.failed = false) (opened : s.serState ≠ .uninit) :
    exec (.acDecode a0 a1) s = .next (s.takeFault 0x43 .badState (field s.serState.code)) := by
  change command 0x43 s (ite _ _ _) = _
  rw [if_pos opened, State.badState, command_raise (.inl running)]

variable (running : s.failed = false) (idle : s.serState = .uninit)

include running idle

theorem exec_acEncode_of_badPair (bad : s64 a0 < 0 ∨ (max32 : Int) < s64 a1 ∨ s64 a1 ≤ s64 a0) :
    exec (.acEncode a0 a1) s = .next (s.takeFault 0x42 .badOperand a0) := by
  change command 0x42 s (ite _ _ _) = _
  rw [if_neg (not_not.mpr idle), if_pos bad, command_raise (.inl running)]

theorem exec_acEncode_of_validPair (nonneg : 0 ≤ s64 a0) (lt : s64 a0 < s64 a1) (le : s64 a1 ≤ max32) :
    exec (.acEncode a0 a1) s =
      .next ({ s with cache := s.cache.update a0.toNat }.respond
        (Response.okay (field (s.cache.choose a0.toNat a1.toNat).mode)
          (field (s.cache.choose a0.toNat a1.toNat).value) 0 0)) := by
  have addr : (s64 a0).toNat = a0.toNat := congrArg Int.toNat (s64_of_nonneg nonneg)
  have here : (s64 a1).toNat = a1.toNat := congrArg Int.toNat (s64_of_nonneg (nonneg.trans lt.le))
  change command 0x42 s (ite _ _ _) = _
  rw [if_neg (not_not.mpr idle), if_neg (by omega), command_ok (.inl running), addr, here]

/-- AC_DECODE ends as the function behind it does (rule R178). -/
theorem exec_acDecode_of_ok {addr q : Nat}
    (decoded : s.cache.decode (s.readByte .inp) s.inCursor s.inLimit (s64 a0) (u64 a1) = .ok addr q) :
    exec (.acDecode a0 a1) s = .next ({ s with cache := s.cache.update addr, inCursor := q }.respond
      (Response.okay (field addr) (field q) 0 0)) := by
  change command 0x43 s (ite _ _ _) = _
  rw [if_neg (not_not.mpr idle), decoded, command_ok (.inl running)]

theorem exec_acDecode_of_endOfData
    (ended : s.cache.decode (s.readByte .inp) s.inCursor s.inLimit (s64 a0) (u64 a1) = .endOfData) :
    exec (.acDecode a0 a1) s = .next (s.respond (Response.bare .endOfData)) := by
  change command 0x43 s (ite _ _ _) = _
  rw [if_neg (not_not.mpr idle), ended, command_endOfData (.inl running)]

theorem exec_acDecode_of_error {cause : Cause}
    (failed : s.cache.decode (s.readByte .inp) s.inCursor s.inLimit (s64 a0) (u64 a1) = .error cause) :
    exec (.acDecode a0 a1) s = .next (s.takeFault 0x43 cause (acDecodeInfo cause a0 a1 s.inCursor)) := by
  change command 0x43 s (ite _ _ _) = _
  rw [if_neg (not_not.mpr idle), failed, command_raise (.inl running)]

end Commands

/-- Settles O33: each command refused, faulted or complete. -/
theorem addressCommandsComplete : Obligations.AddressCommandsComplete := by
  intro s a0 a1 running
  refine ⟨fun opened => ⟨exec_acEncode_of_open running opened, exec_acDecode_of_open running opened⟩,
    fun idle => ⟨exec_acEncode_of_badPair running idle, exec_acEncode_of_validPair running idle,
      fun _ _ => exec_acDecode_of_ok running idle, exec_acDecode_of_endOfData running idle,
      fun cause failed => ?_⟩⟩
  rw [exec_acDecode_of_error running idle failed]
  cases cause <;> rfl

/-! ### The round trip -/

/-- The bytes stand in memory from the cursor on. -/
def BytesAt (mem : Nat → Byte) (cursor : Nat) (bytes : List Byte) : Prop :=
  ∀ i < bytes.length, bytes[i]? = some (mem (cursor + i))

theorem BytesAt.of_append {mem : Nat → Byte} {cursor : Nat} {front back : List Byte}
    (h : BytesAt mem cursor (front ++ back)) :
    BytesAt mem cursor front ∧ BytesAt mem (cursor + front.length) back := by
  rw [BytesAt, List.length_append] at h
  refine ⟨fun i lt => ?front, fun i lt => ?back⟩
  case front => rw [← h i (by omega), List.getElem?_append_left lt]
  case back =>
    rw [Nat.add_assoc, ← h _ (by omega), List.getElem?_append_right (Nat.le_add_right _ _),
      Nat.add_sub_cancel_left]

section RoundTrip

variable {c : AddrCache} {mem : Nat → Byte} {cursor limit addr here mode value len : Nat}

theorem AddrCache.addressField_same (same : 2 + c.nearSize ≤ mode) :
    c.addressField mode value = [byte value] := if_pos same

theorem AddrCache.addressField_varint (other : mode < 2 + c.nearSize) :
    c.addressField mode value = varintEncode value := if_neg (not_le.mpr other)

/-- The parser reads the field of a SELF, HERE or NEAR mode back as its value. -/
theorem AddrCache.decode_varintField (here_pos : 0 < here) (here_le : here ≤ max32)
    (other : mode < 2 + c.nearSize) (value_le : value ≤ max32)
    (bytes : BytesAt mem cursor (c.addressField mode value))
    (room : cursor + (c.addressField mode value).length ≤ limit) :
    c.decode mem cursor limit here mode =
      c.decodeValue here mode value (cursor + (c.addressField mode value).length) := by
  rw [AddrCache.addressField_varint other] at bytes room ⊢
  rw [length_varintEncode] at room ⊢
  have parsed := varintParse_encoded (width := .w32) (limit := limit) value_le
    fun i lt => bytes i ((length_varintEncode value).symm ▸ lt)
  rw [if_pos room] at parsed
  exact AddrCache.decode_of_parsed (by omega) (by omega) other parsed

/-- The field of a SAME mode is read back as the entry it names. -/
theorem AddrCache.decode_sameField (here_pos : 0 < here) (here_le : here ≤ max32)
    (same : 2 + c.nearSize ≤ mode) (le_last : mode ≤ c.lastMode) (value_lt : value < 256)
    (bytes : BytesAt mem cursor (c.addressField mode value))
    (room : cursor + (c.addressField mode value).length ≤ limit) :
    c.decode mem cursor limit here mode =
      addrInRange (readZero c.same ((mode - 2 - c.nearSize) * 256 + value)) here
        (cursor + (c.addressField mode value).length) := by
  rw [AddrCache.addressField_same same] at bytes room ⊢
  have read : mem cursor = byte value := (Option.some.inj (bytes 0 Nat.one_pos)).symm
  rw [c.decode_same (by omega) (by omega) le_last same, if_neg (by simpa using room), read,
    BitVec.toNat_ofNat, Nat.mod_eq_of_lt value_lt]
  rfl

/-- Every candidate encoding of an address decodes to it, and its field is what is consumed. -/
theorem AddrCache.decode_candidate (candidate : c.Candidate addr here mode value len) (lt : addr < here)
    (here_le : here ≤ max32) (bytes : BytesAt mem cursor (c.addressField mode value))
    (room : cursor + (c.addressField mode value).length ≤ limit) :
    c.decode mem cursor limit here mode = .ok addr (cursor + (c.addressField mode value).length) := by
  have here_pos : 0 < here := Nat.zero_lt_of_lt lt
  rw [← addrInRange_of_lt _ lt]
  obtain ⟨rfl, rfl, -⟩ | ⟨rfl, rfl, -⟩ | ⟨i, slot, entry_le, rfl, rfl, -⟩ | ⟨pos, hit, rfl, rfl, -⟩ :=
    candidate
  case inl => exact AddrCache.decode_varintField here_pos here_le (by omega) (by omega) bytes room
  case inr.inl =>
    rw [AddrCache.decode_varintField here_pos here_le (by omega) (by omega) bytes room,
      AddrCache.decodeValue_here, show (here : Int) - (here - addr : Nat) = addr by omega]
  case inr.inr.inl =>
    have sum : readZero c.near (2 + i - 2) + (addr - readZero c.near i) = addr := by
      rw [Nat.add_sub_cancel_left, Nat.add_sub_cancel' entry_le]
    rw [AddrCache.decode_varintField here_pos here_le (by omega) (by omega) bytes room,
      AddrCache.decodeValue_near_of_le (by omega) (by omega), sum]
  case inr.inr.inr =>
    have pos_lt : addr % (c.sameSize * 256) < c.sameSize * 256 := Nat.mod_lt _ (by omega)
    have split : (2 + c.nearSize + addr % (c.sameSize * 256) / 256 - 2 - c.nearSize) * 256 +
        addr % (c.sameSize * 256) % 256 = addr % (c.sameSize * 256) := by omega
    rw [AddrCache.decode_sameField here_pos here_le (by omega) (by unfold AddrCache.lastMode; omega)
      (Nat.mod_lt _ (by decide)) bytes room, split, hit]

theorem AddrCache.decodeAll_cons {rest : List (Nat × Nat)} {q p : Nat} {addrs : List Nat} {d : AddrCache}
    (first : c.decode mem cursor limit here mode = .ok addr q)
    (after : (c.update addr).decodeAll mem q limit rest = some (addrs, p, d)) :
    c.decodeAll mem cursor limit ((here, mode) :: rest) = some (addr :: addrs, p, d) := by
  simp only [AddrCache.decodeAll, first, after]

/-- What a sequence was encoded to decodes to it (rule R179): the field chosen is read back as its address,
and both sides go on with the cache that address gives. -/
theorem AddrCache.decodeAll_encodeAll {pairs : List (Nat × Nat)}
    (valid : ∀ e ∈ pairs, e.1 < e.2 ∧ e.2 ≤ max32)
    (bytes : BytesAt mem cursor (c.encodeAll pairs).2.1)
    (room : cursor + (c.encodeAll pairs).2.1.length ≤ limit) :
    c.decodeAll mem cursor limit ((pairs.map Prod.snd).zip (c.encodeAll pairs).1) =
      some (pairs.map Prod.fst, cursor + (c.encodeAll pairs).2.1.length, (c.encodeAll pairs).2.2) := by
  induction pairs generalizing c cursor with
  | nil => rfl
  | cons pair rest ih =>
    obtain ⟨addr, here⟩ := pair
    obtain ⟨⟨lt, le⟩, validRest⟩ := List.forall_mem_cons.mp valid
    simp only [AddrCache.encodeAll, List.length_append, ← Nat.add_assoc] at bytes room ⊢
    obtain ⟨first, after⟩ := bytes.of_append
    exact AddrCache.decodeAll_cons
      (AddrCache.decode_candidate (c.choose_candidate addr here) lt le first (le_of_add_le_left room))
      (ih validRest after room)

end RoundTrip

/-- Settles O35, for every cache, in its invariant or not. -/
theorem addressRoundTrip : Obligations.AddressRoundTrip :=
  fun _ _ _ _ _ _ => AddrCache.decodeAll_encodeAll

end Sys2Proof.Machine


/-! ## The code table: its entries, the two lookups, and validation (44_code_table.md)

Each lookup is a search from opcode 0 up, so it answers the lowest opcode of a property, or `NO_OPCODE`
(`IsLowestOpcode`); with the property said in the spec's words this gives the map commands (O39) and what the
serializer rests on (O40). Validation searches twice: for an illegal half, then through the combinations that
rule R191 asks for, whose list rises in the information of the fault, so the first missing is the least (O38).
An entry and its packed form determine each other (O37). -/

namespace Sys2Proof.Machine

/-! ### The packed entry -/

section Entries

variable {s : State} {op j : Nat}

theorem CtEntry.toNat_pack (e : CtEntry) :
    e.pack.toNat = e.inst1.toNat ||| e.size1.toNat <<< 8 ||| e.mode1.toNat <<< 16 ||| e.inst2.toNat <<< 24 |||
      e.size2.toNat <<< 32 ||| e.mode2.toNat <<< 40 := by
  rw [CtEntry.pack]
  repeat rw [BitVec.toNat_append]
  simp [Nat.shiftLeft_or_distrib, ← Nat.shiftLeft_add, Nat.or_comm, Nat.or_assoc]

/-- The packed entry puts the six bytes in their places (30_encoding.md rule R94). -/
theorem CtEntry.pack_eq_field (e : CtEntry) :
    e.pack = field (e.inst1.toNat ||| e.size1.toNat <<< 8 ||| e.mode1.toNat <<< 16 ||| e.inst2.toNat <<< 24 |||
      e.size2.toNat <<< 32 ||| e.mode2.toNat <<< 40) := by
  rw [← e.toNat_pack]
  exact (BitVec.setWidth_eq e.pack).symm.trans (BitVec.ofNat_toNat 64 e.pack).symm

/-- A field of 48 bits is the packed form of the entry it spells (30_encoding.md rule R94). -/
theorem CtEntry.pack_unpack {f : Field} (lt : f.toNat < 2 ^ 48) : (CtEntry.unpack f).pack = f := by
  have high : f.extractLsb' 48 16 = 0 := by
    refine BitVec.eq_of_toNat_eq ?_
    rw [BitVec.extractLsb'_toNat, Nat.shiftRight_eq_div_pow, Nat.div_eq_of_lt lt]
    rfl
  rw [CtEntry.pack, ← high]
  dsimp only [CtEntry.unpack]
  repeat rw [BitVec.extractLsb'_append_extractLsb'_eq_extractLsb' (by rfl)]
  exact BitVec.extractLsb'_eq_self

theorem State.ctEntry_setCtEntry_self (e : CtEntry) (rising : Sparse.rising s.ct = true) :
    (s.setCtEntry op e).ctEntry op = e := by
  unfold State.setCtEntry State.ctEntry
  split_ifs with isDefault
  · rw [Sparse.lookup_erase_self op rising, isDefault]
    rfl
  · rw [Sparse.lookup_insert_self]
    rfl

theorem State.ctEntry_setCtEntry_of_ne (e : CtEntry) (ne : j ≠ op) :
    (s.setCtEntry op e).ctEntry j = s.ctEntry j := by
  unfold State.setCtEntry State.ctEntry
  split_ifs
  · rw [Sparse.lookup_erase_of_ne _ ne]
  · rw [Sparse.lookup_insert_of_ne _ _ ne]

end Entries

/-! ### CT_READ and CT_WRITE -/

section Access

variable {s : State} {a0 a1 : Field}

theorem exec_ctRead_of_gt (running : s.failed = false) (gt : 255 < u64 a0) :
    exec (.ctRead a0) s = .next (s.takeFault 0x52 .badOperand a0) := by
  change command 0x52 s (ite _ _ _) = _
  rw [if_pos gt, command_raise (.inl running)]

theorem exec_ctRead_of_le (running : s.failed = false) (le : u64 a0 ≤ 255) {e : CtEntry}
    (entry : s.ctEntry (u64 a0) = e) :
    exec (.ctRead a0) s = .next (s.respond (Response.okay e.pack 0 0 0)) := by
  change command 0x52 s (ite _ _ _) = _
  rw [if_neg (not_lt.mpr le), command_ok (.inl running), entry]

theorem exec_ctWrite_of_open (running : s.failed = false) (opened : s.serState ≠ .uninit) :
    exec (.ctWrite a0 a1) s = .next (s.takeFault 0x51 .badState (field s.serState.code)) := by
  change command 0x51 s (ite _ _ _) = _
  rw [if_pos opened, State.badState, command_raise (.inl running)]

variable (running : s.failed = false) (idle : s.serState = .uninit)

include running idle

theorem exec_ctWrite_of_opcode_gt (gt : 255 < u64 a0) :
    exec (.ctWrite a0 a1) s = .next (s.takeFault 0x51 .badOperand a0) := by
  change command 0x51 s (ite _ _ _) = _
  rw [if_neg (not_not.mpr idle), if_pos gt, command_raise (.inl running)]

theorem exec_ctWrite_of_entry_ge (le : u64 a0 ≤ 255) (large : 2 ^ 48 ≤ u64 a1) :
    exec (.ctWrite a0 a1) s = .next (s.takeFault 0x51 .badOperand a1) := by
  change command 0x51 s (ite _ _ _) = _
  rw [if_neg (not_not.mpr idle), if_neg (not_lt.mpr le), if_pos large, command_raise (.inl running)]

theorem exec_ctWrite_of_inRange (le : u64 a0 ≤ 255) (lt : u64 a1 < 2 ^ 48) :
    exec (.ctWrite a0 a1) s =
      .next ({ s.setCtEntry (u64 a0) (CtEntry.unpack a1) with ctValid := false }.respond
        (Response.okay 0 0 0 0)) := by
  change command 0x51 s (ite _ _ _) = _
  rw [if_neg (not_not.mpr idle), if_neg (not_lt.mpr le), if_neg (not_le.mpr lt),
    command_done (.inl running)]

end Access

/-- Settles O37: the entry set is the one the operand spells, and CT_READ packs it again. -/
theorem codeTableReadsBackWhatWasWritten : Obligations.CodeTableReadsBackWhatWasWritten := by
  intro s a0 a1 running
  refine ⟨exec_ctRead_of_gt running, fun le => ?read, exec_ctWrite_of_open running, fun idle =>
    ⟨exec_ctWrite_of_opcode_gt running idle, exec_ctWrite_of_entry_ge running idle,
      fun le lt rising => ⟨_, exec_ctWrite_of_inRange running idle le lt, rfl,
        fun op => State.ctEntry_setCtEntry_of_ne (CtEntry.unpack a1), ?readBack, rfl⟩⟩⟩
  case read => rw [exec_ctRead_of_le running le rfl, CtEntry.pack_eq_field]
  case readBack =>
    have read := exec_ctRead_of_le (s := { s.setCtEntry (u64 a0) (CtEntry.unpack a1) with ctValid := false })
      running le (State.ctEntry_setCtEntry_self (CtEntry.unpack a1) rising)
    rwa [CtEntry.pack_unpack lt] at read

/-! ### The lowest opcode of a property -/

/-- `r` is the lowest opcode of which `P` holds, or `NO_OPCODE` where there is none (rules R192, R193). -/
def IsLowestOpcode (P : Nat → Prop) (r : Nat) : Prop :=
  (r < 256 ∧ P r ∧ ∀ op < r, ¬ P op) ∨ (r = noOpcode ∧ ∀ op < 256, ¬ P op)

section Lowest

variable {P : Nat → Prop} {r : Nat}

/-- A search from opcode 0 up answers the lowest opcode. -/
theorem isLowestOpcode_find? {p : Nat → Bool} (test : ∀ op, p op = true ↔ P op) :
    IsLowestOpcode P (((List.range 256).find? p).getD noOpcode) := by
  cases found : (List.range 256).find? p with
  | none =>
    exact .inr ⟨rfl, fun op lt holds => by
      simpa [(test op).mpr holds] using List.find?_range_eq_none.mp found op lt⟩
  | some op =>
    obtain ⟨holds, mem, below⟩ := List.find?_range_eq_some.mp found
    exact .inl ⟨List.mem_range.mp mem, (test op).mp holds,
      fun j lt holds => by simpa [(test j).mpr holds] using below j lt⟩

theorem IsLowestOpcode.holds (lowest : IsLowestOpcode P r) (lt : r < 256) : P r := by
  obtain ⟨-, holds, -⟩ | ⟨eq, -⟩ := lowest
  · exact holds
  · exact absurd eq lt.ne

theorem IsLowestOpcode.le {op : Nat} (lowest : IsLowestOpcode P r) (lt : op < 256) (holds : P op) :
    r ≤ op := by
  obtain ⟨-, -, below⟩ | ⟨-, nowhere⟩ := lowest
  · exact not_lt.mp fun less => below op less holds
  · exact absurd holds (nowhere op lt)

theorem IsLowestOpcode.lt_iff_exists (lowest : IsLowestOpcode P r) : r < 256 ↔ ∃ op < 256, P op :=
  ⟨fun lt => ⟨r, lt, lowest.holds lt⟩, fun ⟨_, lt, holds⟩ => (lowest.le lt holds).trans_lt lt⟩

theorem IsLowestOpcode.eq_noOpcode_iff (lowest : IsLowestOpcode P r) :
    r = noOpcode ↔ ¬ ∃ op < 256, P op := by
  rw [← lowest.lt_iff_exists]
  obtain ⟨lt, -⟩ | ⟨eq, -⟩ := lowest
  · exact iff_of_false lt.ne (not_not.mpr lt)
  · exact iff_of_true eq (not_lt.mpr eq.ge)

end Lowest

/-! ### The two lookups -/

/-- `Single(e)` in the words of rule R190. -/
theorem CtEntry.single_eq_some_iff {e : CtEntry} {h : Half} : e.single = some h ↔ e.IsSingle h := by
  unfold CtEntry.single CtEntry.IsSingle
  split_ifs with first second
  · obtain ⟨absent, present⟩ := first
    rw [Option.some.injEq]
    refine ⟨by rintro rfl; exact ⟨present, .inl ⟨rfl, absent⟩⟩, ?_⟩
    rintro ⟨-, ⟨same, -⟩ | ⟨-, empty⟩⟩
    · exact same
    · exact absurd empty present
  · obtain ⟨absent, present⟩ := second
    rw [Option.some.injEq]
    refine ⟨by rintro rfl; exact ⟨present, .inr ⟨rfl, absent⟩⟩, ?_⟩
    rintro ⟨-, ⟨-, empty⟩ | ⟨same, -⟩⟩
    · exact absurd empty present
    · exact same
  · refine iff_of_false nofun ?_
    rintro ⟨present, ⟨rfl, absent⟩ | ⟨rfl, absent⟩⟩
    · exact first ⟨absent, present⟩
    · exact second ⟨absent, present⟩

theorem CtEntry.compound_iff {e : CtEntry} : e.compound = true ↔ e.inst1 ≠ instNoop ∧ e.inst2 ≠ instNoop := by
  simp [CtEntry.compound]

/-- The opcode `op` merges the instruction of the opcode `first` and the instruction `h` (rule R193). -/
def Merges (tbl : Nat → CtEntry) (first : Nat) (h : Half) (op : Nat) : Prop :=
  (tbl op).inst1 ≠ instNoop ∧ (tbl op).inst2 ≠ instNoop ∧ (tbl op).second = h ∧
    lookupFirst tbl (tbl op).first = first

theorem lookupFirst_isLowest (tbl : Nat → CtEntry) (h : Half) :
    IsLowestOpcode (fun op => (tbl op).IsSingle h) (lookupFirst tbl h) :=
  isLowestOpcode_find? fun op => by rw [beq_iff_eq, CtEntry.single_eq_some_iff]

theorem lookupSecond_isLowest (tbl : Nat → CtEntry) (first : Nat) (h : Half) :
    IsLowestOpcode (Merges tbl first h) (lookupSecond tbl first h) :=
  isLowestOpcode_find? fun op => by
    simp only [Bool.and_eq_true, beq_iff_eq, CtEntry.compound_iff, Merges]
    tauto

/-! ### IM_FIRST and IM_SECOND -/

@[simp] theorem firstAboveByte_nil : firstAboveByte [] = none := rfl

@[simp] theorem firstAboveByte_cons_of_gt {a : Field} (l : List Field) (gt : 255 < u64 a) :
    firstAboveByte (a :: l) = some a :=
  List.find?_cons_of_pos (decide_eq_true gt)

@[simp] theorem firstAboveByte_cons_of_le {a : Field} (l : List Field) (le : u64 a ≤ 255) :
    firstAboveByte (a :: l) = firstAboveByte l :=
  List.find?_cons_of_neg (by simpa using le)

section MapCommands

variable {s : State} {a a0 a1 a2 a3 : Field} (running : s.failed = false)

include running

theorem exec_imFirst_of_above (above : firstAboveByte [a0, a1, a2] = some a) :
    exec (.imFirst a0 a1 a2) s = .next (s.takeFault 0x54 .badOperand a) := by
  change command 0x54 s _ = _
  rw [above, command_raise (.inl running)]

theorem exec_imSecond_of_above (above : firstAboveByte [a0, a1, a2, a3] = some a) :
    exec (.imSecond a0 a1 a2 a3) s = .next (s.takeFault 0x55 .badOperand a) := by
  change command 0x55 s _ = _
  rw [above, command_raise (.inl running)]

theorem exec_imFirst_of_bytes (bytes : firstAboveByte [a0, a1, a2] = none) :
    exec (.imFirst a0 a1 a2) s =
      .next (s.respond (Response.okay (field (lookupFirst s.ctEntry (operandHalf a0 a1 a2))) 0 0 0)) := by
  change command 0x54 s _ = _
  rw [bytes, command_ok (.inl running)]

theorem exec_imSecond_of_bytes (bytes : firstAboveByte [a0, a1, a2, a3] = none) :
    exec (.imSecond a0 a1 a2 a3) s =
      .next (s.respond (Response.okay (field (lookupSecond s.ctEntry (u64 a0) (operandHalf a1 a2 a3)))
        0 0 0)) := by
  change command 0x55 s _ = _
  rw [bytes, command_ok (.inl running)]

end MapCommands

/-- Settles O39: the operands are checked in their order, then each lookup answers its lowest opcode. -/
theorem instructionMapFindsTheLowest : Obligations.InstructionMapFindsTheLowest := by
  intro s a0 a1 a2 a3 running
  refine ⟨fun gt => ⟨?_, ?_⟩, fun le0 gt => ⟨?_, ?_⟩, fun le0 le1 gt => ⟨?_, ?_⟩, fun le0 le1 le2 gt => ?_,
    fun le0 le1 le2 => ?first, fun le0 le1 le2 le3 => ?second⟩
  · exact exec_imFirst_of_above running (by simp [gt])
  · exact exec_imSecond_of_above running (by simp [gt])
  · exact exec_imFirst_of_above running (by simp [le0, gt])
  · exact exec_imSecond_of_above running (by simp [le0, gt])
  · exact exec_imFirst_of_above running (by simp [le0, le1, gt])
  · exact exec_imSecond_of_above running (by simp [le0, le1, gt])
  · exact exec_imSecond_of_above running (by simp [le0, le1, le2, gt])
  case first =>
    exact ⟨_, exec_imFirst_of_bytes running (by simp [le0, le1, le2]), rfl, lookupFirst_isLowest _ _⟩
  case second =>
    exact ⟨_, exec_imSecond_of_bytes running (by simp [le0, le1, le2, le3]), lookupSecond_isLowest _ _ _⟩

/-! ### Validation -/

/-- A half that CT_VALIDATE accepts (rule R191; 92_eei_decisions.md D36; log 15). -/
def Half.Legal (h : Half) (maxMode : Nat) : Prop :=
  h.inst.toNat ≤ 3 ∧ h.mode.toNat ≤ maxMode ∧ (h.inst = instNoop → h.size = 0 ∧ h.mode = 0) ∧
    (h.inst = instAdd ∨ h.inst = instRun → h.mode = 0)

/-- An entry whose two halves CT_VALIDATE accepts. -/
def CtEntry.Legal (e : CtEntry) (maxMode : Nat) : Prop := e.first.Legal maxMode ∧ e.second.Legal maxMode

theorem Half.illegal_eq_false_iff {h : Half} {maxMode : Nat} :
    h.illegal maxMode = false ↔ h.Legal maxMode := by
  simp only [Half.illegal, Half.Legal, Bool.or_eq_false_iff, Bool.and_eq_false_imp, decide_eq_false_iff_not,
    beq_iff_eq, bne_eq_false_iff_eq, Bool.or_eq_true, not_lt, and_assoc]

/-- The combination an opcode of size 0 has to express (rule R191), with the information that names it as
missing (rule R197). -/
def NeededCombination (maxMode : Nat) (inst : Byte) (mode info : Nat) : Prop :=
  (inst = instAdd ∧ mode = 0 ∧ info = 0x200) ∨ (inst = instRun ∧ mode = 0 ∧ info = 0x300) ∨
    (inst = instCopy ∧ mode ≤ maxMode ∧ info = 0x400 + mode)

/-- The information of the fault that names a combination as missing (rule R197). -/
def Half.missingInfo (h : Half) : Nat := 0x100 * (h.inst.toNat + 1) + h.mode.toNat

section Validation

variable {tbl : Nat → CtEntry} {maxMode : Nat}

theorem illegal_or_illegal_iff {e : CtEntry} :
    (e.first.illegal maxMode || e.second.illegal maxMode) = false ↔ e.Legal maxMode := by
  rw [Bool.or_eq_false_iff, Half.illegal_eq_false_iff, Half.illegal_eq_false_iff, CtEntry.Legal]

theorem illegalOpcode_eq_none_iff :
    illegalOpcode tbl maxMode = none ↔ ∀ op < 256, (tbl op).Legal maxMode := by
  simp only [illegalOpcode, List.find?_range_eq_none, Bool.not_eq_true', illegal_or_illegal_iff]

theorem illegalOpcode_eq_some_iff {op : Nat} :
    illegalOpcode tbl maxMode = some op ↔
      ¬ (tbl op).Legal maxMode ∧ op < 256 ∧ ∀ j < op, (tbl j).Legal maxMode := by
  have illegal (e : CtEntry) :
      (e.first.illegal maxMode || e.second.illegal maxMode) = true ↔ ¬ e.Legal maxMode := by
    rw [← illegal_or_illegal_iff, Bool.not_eq_false]
  simp only [illegalOpcode, List.find?_range_eq_some, Bool.not_eq_true', illegal_or_illegal_iff, illegal,
    List.mem_range]

theorem mem_neededHalves_iff {h : Half} :
    h ∈ neededHalves maxMode ↔ h = .add 0 ∨ h = .run 0 ∨ ∃ m ≤ maxMode, h = .copy 0 m := by
  simp only [neededHalves, List.mem_cons, List.mem_map, List.mem_range, Nat.lt_succ_iff, @eq_comm _ h]

theorem Half.missingInfo_copy {size m : Nat} (le : m ≤ 255) : (Half.copy size m).missingInfo = 0x400 + m :=
  congrArg (0x400 + ·) (Nat.mod_eq_of_lt (Nat.lt_succ_of_le le))

/-- The combinations are tried in the order of the information that names them (rule R197). -/
theorem neededHalves_ascending (le : maxMode ≤ 255) :
    (neededHalves maxMode).Pairwise (·.missingInfo < ·.missingInfo) := by
  have info {m : Nat} (mem : m ∈ List.range (maxMode + 1)) : (Half.copy 0 m).missingInfo = 0x400 + m :=
    Half.missingInfo_copy ((Nat.le_of_lt_succ (List.mem_range.mp mem)).trans le)
  have copies : ∀ h ∈ (List.range (maxMode + 1)).map (Half.copy 0), 0x400 ≤ h.missingInfo :=
    List.forall_mem_map.mpr fun m mem => (info mem).ge.trans' (Nat.le_add_right _ _)
  refine List.pairwise_cons.mpr ⟨List.forall_mem_cons.mpr ⟨by decide, fun h mem => ?_⟩,
    List.pairwise_cons.mpr ⟨fun h mem => ?_, List.pairwise_map.mpr ?_⟩⟩
  · exact (copies h mem).trans_lt' (by decide)
  · exact (copies h mem).trans_lt' (by decide)
  · refine List.pairwise_lt_range.imp_of_mem fun mem mem' lt => ?_
    rw [info mem, info mem']
    exact Nat.add_lt_add_left lt _

theorem missingHalf_eq_none_iff :
    missingHalf tbl maxMode = none ↔ ∀ h ∈ neededHalves maxMode, ∃ op < 256, (tbl op).IsSingle h := by
  simp only [missingHalf, List.find?_eq_none, beq_iff_eq, (lookupFirst_isLowest tbl _).eq_noOpcode_iff,
    not_not]

/-- The first combination that is missing is the missing one of least information (rule R197). -/
theorem missingHalf_eq_some (le : maxMode ≤ 255) {h : Half} (mem : h ∈ neededHalves maxMode)
    (missing : ¬ ∃ op < 256, (tbl op).IsSingle h)
    (least : ∀ h' ∈ neededHalves maxMode, h'.missingInfo < h.missingInfo →
      ∃ op < 256, (tbl op).IsSingle h') : missingHalf tbl maxMode = some h := by
  obtain ⟨before, after, split⟩ := List.append_of_mem mem
  have ascending := neededHalves_ascending le
  rw [split] at ascending
  obtain ⟨-, -, rise⟩ := List.pairwise_append.mp ascending
  refine List.find?_eq_some_iff_append.mpr ⟨?_, before, after, split, fun h' mem' => ?_⟩
  · rw [beq_iff_eq, (lookupFirst_isLowest tbl h).eq_noOpcode_iff]
    exact missing
  · have expressed := least h' (split ▸ List.mem_append_left _ mem') (rise h' mem' h List.mem_cons_self)
    rw [Bool.not_eq_true', beq_eq_false_iff_ne, Ne, (lookupFirst_isLowest tbl h').eq_noOpcode_iff, not_not]
    exact expressed

/-- A table passes validation when every half is legal and every combination needed has an opcode (rule
R191). -/
theorem tableValid_iff :
    tableValid tbl maxMode = true ↔ (∀ op < 256, (tbl op).Legal maxMode) ∧
      ∀ h ∈ neededHalves maxMode, ∃ op < 256, (tbl op).IsSingle h := by
  rw [tableValid, Bool.and_eq_true, Option.isNone_iff_eq_none, Option.isNone_iff_eq_none,
    illegalOpcode_eq_none_iff, missingHalf_eq_none_iff]

theorem lookupFirst_lt_of_tableValid (valid : tableValid tbl maxMode = true) {h : Half}
    (mem : h ∈ neededHalves maxMode) : lookupFirst tbl h < 256 := by
  obtain ⟨-, expressed⟩ := tableValid_iff.mp valid
  exact (lookupFirst_isLowest tbl h).lt_iff_exists.mpr (expressed h mem)

/-- A combination that rule R191 asks for is in the list that is searched, named by its information. -/
theorem NeededCombination.mem {inst : Byte} {mode info : Nat} (le : maxMode ≤ 255)
    (needed : NeededCombination maxMode inst mode info) :
    ⟨inst, 0, byte mode⟩ ∈ neededHalves maxMode ∧ Half.missingInfo ⟨inst, 0, byte mode⟩ = info := by
  rw [mem_neededHalves_iff]
  obtain ⟨rfl, rfl, rfl⟩ | ⟨rfl, rfl, rfl⟩ | ⟨rfl, mode_le, rfl⟩ := needed
  · exact ⟨.inl rfl, rfl⟩
  · exact ⟨.inr (.inl rfl), rfl⟩
  · exact ⟨.inr (.inr ⟨mode, mode_le, rfl⟩), Half.missingInfo_copy (size := 0) (mode_le.trans le)⟩

/-- Whatever is in the list that is searched is asked for by rule R191. -/
theorem exists_neededCombination {h : Half} (le : maxMode ≤ 255) (mem : h ∈ neededHalves maxMode) :
    ∃ inst mode, h = ⟨inst, 0, byte mode⟩ ∧ NeededCombination maxMode inst mode h.missingInfo := by
  obtain rfl | rfl | ⟨m, m_le, rfl⟩ := mem_neededHalves_iff.mp mem
  · exact ⟨instAdd, 0, rfl, .inl ⟨rfl, rfl, rfl⟩⟩
  · exact ⟨instRun, 0, rfl, .inr (.inl ⟨rfl, rfl, rfl⟩)⟩
  · exact ⟨instCopy, m, rfl, .inr (.inr ⟨rfl, m_le, Half.missingInfo_copy (m_le.trans le)⟩)⟩

end Validation

/-! ### CT_VALIDATE -/

section Validate

variable {s : State} {a0 : Field}

theorem exec_ctValidate_of_open (running : s.failed = false) (opened : s.serState ≠ .uninit) :
    exec (.ctValidate a0) s = .next (s.takeFault 0x53 .badState (field s.serState.code)) := by
  change command 0x53 s (ite _ _ _) = _
  rw [if_pos opened, State.badState, command_raise (.inl running)]

variable (running : s.failed = false) (idle : s.serState = .uninit)

include running idle

theorem exec_ctValidate_of_gt (gt : 255 < u64 a0) :
    exec (.ctValidate a0) s = .next (s.takeFault 0x53 .badOperand a0) := by
  change command 0x53 s (ite _ _ _) = _
  rw [if_neg (not_not.mpr idle), if_pos gt, command_raise (.inl running)]

variable (le : u64 a0 ≤ 255)

include le

theorem exec_ctValidate_of_illegal {op : Nat} (illegal : illegalOpcode s.ctEntry (u64 a0) = some op) :
    exec (.ctValidate a0) s = .next (s.takeFault 0x53 .invalidCodeTable (field op)) := by
  change command 0x53 s (ite _ _ _) = _
  rw [if_neg (not_not.mpr idle), if_neg (not_lt.mpr le), illegal, command_raise (.inl running)]

theorem exec_ctValidate_of_missing (legal : illegalOpcode s.ctEntry (u64 a0) = none) {h : Half}
    (missing : missingHalf s.ctEntry (u64 a0) = some h) :
    exec (.ctValidate a0) s =
      .next (s.takeFault 0x53 .invalidCodeTable (field h.missingInfo)) := by
  change command 0x53 s (ite _ _ _) = _
  rw [if_neg (not_not.mpr idle), if_neg (not_lt.mpr le), legal, missing, command_raise (.inl running),
    Half.missingInfo]

theorem exec_ctValidate_of_valid (legal : illegalOpcode s.ctEntry (u64 a0) = none)
    (complete : missingHalf s.ctEntry (u64 a0) = none) :
    exec (.ctValidate a0) s = .next ({ s with ctValid := true, ctMaxMode := u64 a0 }.respond
      (Response.okay 0 0 0 0)) := by
  change command 0x53 s (ite _ _ _) = _
  rw [if_neg (not_not.mpr idle), if_neg (not_lt.mpr le), legal, complete, command_done (.inl running)]

end Validate

/-- Settles O38: what the two searches of validation find, in the words of rules R191 and R197. -/
theorem ctValidateCompletes : Obligations.CtValidateCompletes := by
  intro s a0 running
  refine ⟨exec_ctValidate_of_open running, exec_ctValidate_of_gt running, fun idle le =>
    ⟨fun ⟨legal, expressed⟩ => ?valid, fun op lt illegal below => ?illegal,
      fun legal inst mode info needed missing least => ?missing⟩⟩
  case valid =>
    refine exec_ctValidate_of_valid running idle le (illegalOpcode_eq_none_iff.mpr legal)
      (missingHalf_eq_none_iff.mpr fun h mem => ?_)
    obtain ⟨inst, mode, rfl, needed⟩ := exists_neededCombination le mem
    exact expressed inst mode _ needed
  case illegal =>
    exact exec_ctValidate_of_illegal running idle le (illegalOpcode_eq_some_iff.mpr ⟨illegal, lt, below⟩)
  case missing =>
    obtain ⟨mem, rfl⟩ := NeededCombination.mem le needed
    refine exec_ctValidate_of_missing running idle le (illegalOpcode_eq_none_iff.mpr legal)
      (missingHalf_eq_some le mem missing fun h mem' lower => ?_)
    obtain ⟨inst', mode', rfl, needed'⟩ := exists_neededCombination le mem'
    exact least inst' mode' _ needed' lower

/-! ### What the serializer rests on -/

/-- Settles O40, from what the two lookups answer and what a valid table expresses. -/
theorem lookupLaws : Obligations.LookupLaws := by
  intro tbl
  refine ⟨fun op lt h single => ?first, fun f lt h found => ?second, fun maxMode _ valid => ?valid⟩
  case first =>
    have lowest := lookupFirst_isLowest tbl h
    have stands : (tbl op).IsSingle h := CtEntry.single_eq_some_iff.mp single
    have found : lookupFirst tbl h < 256 := lowest.lt_iff_exists.mpr ⟨op, lt, stands⟩
    exact ⟨lowest.le lt stands, CtEntry.single_eq_some_iff.mpr (lowest.holds found)⟩
  case second =>
    obtain ⟨-, -, second, first⟩ := (lookupSecond_isLowest tbl f h).holds found
    have stands := (lookupFirst_isLowest tbl _).holds (first.trans_lt lt)
    rw [first] at stands
    exact ⟨second, CtEntry.single_eq_some_iff.mpr stands⟩
  case valid =>
    exact ⟨lookupFirst_lt_of_tableValid valid (mem_neededHalves_iff.mpr (.inl rfl)),
      lookupFirst_lt_of_tableValid valid (mem_neededHalves_iff.mpr (.inr (.inl rfl))),
      fun m le => lookupFirst_lt_of_tableValid valid (mem_neededHalves_iff.mpr (.inr (.inr ⟨m, le, rfl⟩)))⟩

end Sys2Proof.Machine


/-! ## The serializer's plan, and what accumulating an instruction leaves (45_serializer.md)

`Plan` as one equation, its four attempts in order (O43). From it, that a valid table gives every instruction a
plan, and the two shapes a plan has: a compound opcode over the last one, or a single opcode after it. One lemma
then says what the accumulation of any instruction with any plan leaves of every byte and register; the three
instruction commands cite it (O44), with their faults before the plan (O45). -/

namespace Sys2Proof.Machine

/-! ### The four attempts -/

theorem IsLowestOpcode.ne_noOpcode_iff {P : Nat → Prop} {r : Nat} (lowest : IsLowestOpcode P r) :
    r ≠ noOpcode ↔ r < 256 := by
  rw [Ne, lowest.eq_noOpcode_iff, not_not, lowest.lt_iff_exists]

/-- The compound opcode that puts the half `h` after the instruction of the last opcode byte (rules R193,
R215). -/
def State.mergedOpcode (s : State) (h : Half) : Nat :=
  lookupSecond s.ctEntry (s.readByte .inst s.lastOpcodeIndex.toNat).toNat h

section Plan

variable {s : State} {inst : Byte} {size mode : Nat} {p : Plan}

theorem State.mergedOpcode_ne_iff {h : Half} : s.mergedOpcode h ≠ noOpcode ↔ s.mergedOpcode h < 256 :=
  (lookupSecond_isLowest _ _ h).ne_noOpcode_iff

theorem lookupFirst_ne_iff {tbl : Nat → CtEntry} {h : Half} :
    lookupFirst tbl h ≠ noOpcode ↔ lookupFirst tbl h < 256 :=
  (lookupFirst_isLowest tbl h).ne_noOpcode_iff

/-- `Plan` as one equation: its attempts in the order of rule R215. -/
theorem State.plan_eq (s : State) (inst : Byte) (size mode : Nat) :
    s.plan inst size mode =
      if 0 ≤ s.lastOpcodeIndex ∧ size ≤ 255 ∧ s.mergedOpcode (sizedHalf inst size mode) < 256 then
        some ⟨some (byte (s.mergedOpcode (sizedHalf inst size mode))), [], -1⟩
      else if 0 ≤ s.lastOpcodeIndex ∧ s.mergedOpcode (sizedHalf inst 0 mode) < 256 then
        some ⟨some (byte (s.mergedOpcode (sizedHalf inst 0 mode))), varintEncode size, -1⟩
      else if size ≤ 255 ∧ lookupFirst s.ctEntry (sizedHalf inst size mode) < 256 then
        some ⟨none, [byte (lookupFirst s.ctEntry (sizedHalf inst size mode))], s.instLen⟩
      else if lookupFirst s.ctEntry (sizedHalf inst 0 mode) < 256 then
        some ⟨none, byte (lookupFirst s.ctEntry (sizedHalf inst 0 mode)) :: varintEncode size, s.instLen⟩
      else none := by
  have single : (s.singleSized inst size mode).or (s.singleUnsized inst size mode) =
      if size ≤ 255 ∧ lookupFirst s.ctEntry (sizedHalf inst size mode) < 256 then
        some ⟨none, [byte (lookupFirst s.ctEntry (sizedHalf inst size mode))], s.instLen⟩
      else if lookupFirst s.ctEntry (sizedHalf inst 0 mode) < 256 then
        some ⟨none, byte (lookupFirst s.ctEntry (sizedHalf inst 0 mode)) :: varintEncode size, s.instLen⟩
      else none := by
    simp only [State.singleSized, State.singleUnsized, lookupFirst_ne_iff]
    split_ifs <;> rfl
  have second (h : Half) :
      lookupSecond s.ctEntry (s.readByte .inst s.lastOpcodeIndex.toNat).toNat h = s.mergedOpcode h := rfl
  simp only [State.plan, single, State.merge, State.mergeSized, State.mergeUnsized, second,
    State.mergedOpcode_ne_iff]
  by_cases last : 0 ≤ s.lastOpcodeIndex
  · simp only [last, true_and, if_true]
    split_ifs <;> rfl
  · simp only [last, false_and, if_false, Option.none_or]

/-- The size of an instruction, in its opcode or as a varint after it: `k` is the size field looked up, `bytes`
what is appended (rule R215). -/
def SizeSpelled (size k : Nat) (bytes : List Byte) : Prop :=
  (size ≤ 255 ∧ k = size ∧ bytes = []) ∨ (k = 0 ∧ bytes = varintEncode size)

/-- What a plan is: the last opcode byte rewritten to a compound opcode, or a single opcode appended, with the
size of the instruction spelled (rule R215). -/
inductive State.Planned (s : State) (inst : Byte) (size mode : Nat) : Plan → Prop where
  | merged (k : Nat) (bytes : List Byte) (spelled : SizeSpelled size k bytes) (last : 0 ≤ s.lastOpcodeIndex)
      (found : s.mergedOpcode (sizedHalf inst k mode) < 256) :
      s.Planned inst size mode ⟨some (byte (s.mergedOpcode (sizedHalf inst k mode))), bytes, -1⟩
  | single (k : Nat) (bytes : List Byte) (spelled : SizeSpelled size k bytes)
      (found : lookupFirst s.ctEntry (sizedHalf inst k mode) < 256) :
      s.Planned inst size mode
        ⟨none, byte (lookupFirst s.ctEntry (sizedHalf inst k mode)) :: bytes, s.instLen⟩

theorem State.planned_of_plan (h : s.plan inst size mode = some p) : s.Planned inst size mode p := by
  rw [State.plan_eq] at h
  split_ifs at h with first second third fourth
  · cases h
    exact .merged size [] (.inl ⟨first.2.1, rfl, rfl⟩) first.1 first.2.2
  · cases h
    exact .merged 0 _ (.inr ⟨rfl, rfl⟩) second.1 second.2
  · cases h
    exact .single size [] (.inl ⟨third.1, rfl, rfl⟩) third.2
  · cases h
    exact .single 0 _ (.inr ⟨rfl, rfl⟩) fourth

/-- Where the instruction has a single opcode of size 0, there is a plan: the fallback (rule R200). -/
theorem State.exists_plan (found : lookupFirst s.ctEntry (sizedHalf inst 0 mode) < 256) :
    ∃ p, s.plan inst size mode = some p := by
  rw [State.plan_eq]
  split_ifs
  all_goals exact ⟨_, rfl⟩

end Plan

/-- Settles O43, attempt after attempt of the one equation. -/
theorem planTriesInOrder : Obligations.PlanTriesInOrder := by
  intro s inst size mode last c1 c2 o1 o2 first second third
  have plan := s.plan_eq inst size mode
  exact ⟨fun h1 => plan.trans (if_pos h1), fun h1 h2 => plan.trans ((if_neg h1).trans (if_pos h2)),
    fun h1 h2 h3 => plan.trans ((if_neg h1).trans ((if_neg h2).trans (if_pos h3))),
    fun h1 h2 h3 h4 => plan.trans ((if_neg h1).trans ((if_neg h2).trans ((if_neg h3).trans (if_pos h4))))⟩

/-! ### A plan exists in every open stream -/

/-- The mode chosen is one of the cache's (rules R92, R172). -/
theorem AddrCache.choose_mode_le (c : AddrCache) (addr here : Nat) :
    (c.choose addr here).mode ≤ c.lastMode := by
  unfold AddrCache.lastMode
  obtain ⟨mode, -⟩ | ⟨mode, -⟩ | ⟨i, lt, -, mode, -⟩ | ⟨pos, -, mode, -⟩ := c.choose_candidate addr here
  · omega
  · omega
  · omega
  · have : addr % (c.sameSize * 256) < c.sameSize * 256 := Nat.mod_lt _ (by omega)
    omega

/-- The combinations that the serializer asks a plan for: ADD, RUN, and COPY in a mode of the cache (rules R217
to R219). -/
def AddrCache.Accepts (c : AddrCache) (inst : Byte) (mode : Nat) : Prop :=
  (inst = instAdd ∧ mode = 0) ∨ (inst = instRun ∧ mode = 0) ∨ (inst = instCopy ∧ mode ≤ c.lastMode)

theorem AddrCache.accepts_choose (c : AddrCache) (addr here : Nat) :
    c.Accepts instCopy (c.choose addr here).mode :=
  .inr (.inr ⟨rfl, c.choose_mode_le addr here⟩)

section SerInv

variable {s : State} {inst : Byte} {mode : Nat}

theorem AddrCache.Accepts.mode_le {c : AddrCache} (accepted : c.Accepts inst mode) : mode ≤ c.lastMode := by
  obtain ⟨-, rfl⟩ | ⟨-, rfl⟩ | ⟨-, le⟩ := accepted
  · exact Nat.zero_le _
  · exact Nat.zero_le _
  · exact le

/-- The cache's modes are byte values, because the table has been validated for them (rules R191, R225 e). -/
theorem State.SerInv.mode_le (h : s.SerInv) (opened : s.serState ≠ .uninit)
    (accepted : s.cache.Accepts inst mode) : mode ≤ 255 :=
  accepted.mode_le.trans ((h.open_valid opened).2.trans h.max_mode_le)

/-- In an open stream every instruction the serializer accepts has a plan (rule R200). -/
theorem State.SerInv.exists_plan (h : s.SerInv) (opened : s.serState ≠ .uninit)
    (accepted : s.cache.Accepts inst mode) (size : Nat) : ∃ p, s.plan inst size mode = some p := by
  obtain ⟨valid, modes⟩ := h.open_valid opened
  refine State.exists_plan (lookupFirst_lt_of_tableValid (h.table_valid valid) (mem_neededHalves_iff.mpr ?_))
  obtain ⟨rfl, rfl⟩ | ⟨rfl, rfl⟩ | ⟨rfl, le⟩ := accepted
  · exact .inl rfl
  · exact .inr (.inl rfl)
  · exact .inr (.inr ⟨mode, le.trans modes, rfl⟩)

end SerInv

/-! ### What accumulating an instruction leaves -/

section Accumulate

variable {s : State} {p : Plan} {sp : Space} {operand : List Byte} {size : Nat}

theorem State.sink_of_interleaved (merged : s.interleaved = true) (sp : Space) : s.sink sp = .inst := if_pos merged

theorem State.sink_of_standard (standard : s.interleaved = false) (sp : Space) : s.sink sp = sp :=
  if_neg (by simp [standard])

theorem State.operandStart_of_interleaved (merged : s.interleaved = true) :
    s.operandStart sp p = s.instLen + p.bytes.length := if_pos merged

theorem State.operandStart_of_standard (standard : s.interleaved = false) : s.operandStart sp p = s.len sp :=
  if_neg (by simp [standard])

/-- An append to a space with a length register moves that register alone (20_memory.md rule R66). -/
theorem State.len_append (s : State) {sp : Space} (hasLen : sp.writable = false) (bs : List Byte) (sp' : Space) :
    (s.append sp bs).len sp' = s.len sp' + if sp' = sp then bs.length else 0 := by
  split_ifs with same
  · rw [same, State.len_append_self s bs hasLen]
  · rw [State.len_append_of_ne s bs same, Nat.add_zero]

section

variable (isSink : sp = .data ∨ sp = .addr)

include isSink

theorem State.inst_eq_sink_iff : .inst = s.sink sp ↔ s.interleaved = true := by
  unfold State.sink
  obtain rfl | rfl := isSink <;> split <;> simp [*]

theorem State.data_eq_sink_iff : .data = s.sink sp ↔ sp = .data ∧ s.interleaved = false := by
  unfold State.sink
  obtain rfl | rfl := isSink <;> split <;> simp_all

theorem State.addr_eq_sink_iff : .addr = s.sink sp ↔ sp = .addr ∧ s.interleaved = false := by
  unfold State.sink
  obtain rfl | rfl := isSink <;> split <;> simp_all

end

theorem State.writable_sink (isSink : sp = .data ∨ sp = .addr) : (s.sink sp).writable = false := by
  unfold State.sink
  split
  · rfl
  · obtain rfl | rfl := isSink <;> rfl

theorem State.len_commit (s : State) (p : Plan) (sp : Space) :
    (s.commit p).len sp = s.len sp + if sp = .inst then p.bytes.length else 0 := by
  have rewritten : (s.rewriteOpcode p.rewrite).len sp = s.len sp := by cases sp <;> simp [State.len]
  rw [← rewritten]
  exact State.len_append _ (sp := .inst) rfl p.bytes sp

/-- The operand bytes go to the end of the sink, after the plan's bytes have gone to INST (rules R214, R217 to
R219). -/
theorem State.len_sink_commit (isSink : sp = .data ∨ sp = .addr) :
    (s.commit p).len (s.sink sp) = s.operandStart sp p := by
  rw [State.len_commit]
  cases format : s.interleaved with
  | true => rw [State.sink_of_interleaved format, State.operandStart_of_interleaved format, if_pos rfl]; rfl
  | false =>
    rw [State.sink_of_standard format, State.operandStart_of_standard format,
      if_neg (by obtain rfl | rfl := isSink <;> decide)]
    rfl

theorem State.len_accumulate (isSink : sp = .data ∨ sp = .addr) (sp' : Space) :
    (s.accumulate p sp operand size).len sp' =
      s.len sp' + (if sp' = .inst then p.bytes.length else 0) +
        if sp' = s.sink sp then operand.length else 0 := by
  rw [← State.len_commit]
  refine Eq.trans ?_ ((s.commit p).len_append (State.writable_sink isSink) operand sp')
  cases sp' <;> rfl

theorem State.readByte_rewriteOpcode_of_ne {b : Option Byte} {sp : Space} {a : Nat}
    (other : ¬ (sp = .inst ∧ b.isSome = true ∧ a = s.lastOpcodeIndex.toNat)) :
    (s.rewriteOpcode b).readByte sp a = s.readByte sp a := by
  cases b with
  | none => rfl
  | some v => exact State.readByte_writeByte_of_ne s v (by simpa [imp_iff_not_or] using other)

/-- The bytes after an accumulation are those the append of the operand leaves. -/
theorem State.readByte_accumulate (sp' : Space) (a : Nat) :
    (s.accumulate p sp operand size).readByte sp' a =
      ((s.commit p).append (s.sink sp) operand).readByte sp' a :=
  State.readByte_congr (by cases sp' <;> rfl) rfl a

theorem State.readByte_commit (sp' : Space) (a : Nat) :
    (s.commit p).readByte sp' a = ((s.rewriteOpcode p.rewrite).append .inst p.bytes).readByte sp' a :=
  State.readByte_congr (by cases sp' <;> rfl) rfl a

theorem State.readByte_commit_outside {sp' : Space} {a : Nat}
    (outside : sp' ≠ .inst ∨ a < s.instLen ∨ s.instLen + p.bytes.length ≤ a) :
    (s.commit p).readByte sp' a = (s.rewriteOpcode p.rewrite).readByte sp' a := by
  rw [State.readByte_commit]
  refine State.readByte_append_outside _ (sp := .inst) p.bytes ?_
  simpa only [State.len, State.rewriteOpcode_instLen] using outside

/-- The plan's bytes stand from the old end of INST on (rule R215). -/
theorem State.readBytes_commit : (s.commit p).readBytes .inst s.instLen p.bytes.length = p.bytes := by
  have stored := (s.rewriteOpcode p.rewrite).readBytes_append_self .inst p.bytes
  rw [show (s.rewriteOpcode p.rewrite).len .inst = s.instLen from State.rewriteOpcode_instLen s _] at stored
  refine Eq.trans (State.readBytes_congr fun i _ => ?_) stored
  exact State.readByte_commit _ _

theorem State.readByte_accumulate_outside (isSink : sp = .data ∨ sp = .addr) {sp' : Space} {a : Nat}
    (outside : sp' ≠ s.sink sp ∨ a < s.operandStart sp p ∨ s.operandStart sp p + operand.length ≤ a) :
    (s.accumulate p sp operand size).readByte sp' a = (s.commit p).readByte sp' a := by
  rw [State.readByte_accumulate]
  refine State.readByte_append_outside _ operand ?_
  rwa [State.len_sink_commit isSink]

/-- The window of `t` put back to that of `s`: its bytes, their lengths and the registers of the serializer
that an accumulation writes. -/
def State.restoreWindow (s t : State) : State :=
  { t with
    inst := s.inst, data := s.data, addr := s.addr, instLen := s.instLen, dataLen := s.dataLen,
    addrLen := s.addrLen, lastOpcodeIndex := s.lastOpcodeIndex, winTargetLen := s.winTargetLen,
    serState := s.serState, reader := s.reader }

/-- An append to a section of the window leaves all but the window. -/
theorem State.restoreWindow_append (s t : State) (bs : List Byte)
    (isSection : sp = .inst ∨ sp = .data ∨ sp = .addr) :
    s.restoreWindow (t.append sp bs) = s.restoreWindow t := by
  refine Eq.trans ?_ (congrArg s.restoreWindow (t.append_frame sp bs))
  have mem (sp' : Space) (other : sp' ≠ sp) := t.mem_append_of_ne bs other
  have len := t.len_append_of_ne bs (sp := sp) (sp' := .out) (by obtain rfl | rfl | rfl := isSection <;> decide)
  unfold State.restoreWindow
  congr 1
  · exact mem .src (by obtain rfl | rfl | rfl := isSection <;> decide)
  · exact mem .tgt (by obtain rfl | rfl | rfl := isSection <;> decide)
  · exact mem .inp (by obtain rfl | rfl | rfl := isSection <;> decide)
  · exact mem .out (by obtain rfl | rfl | rfl := isSection <;> decide)

/-- Accumulating an instruction leaves all but the window. -/
theorem State.restoreWindow_accumulate (isSink : sp = .data ∨ sp = .addr) :
    s.restoreWindow (s.accumulate p sp operand size) = s := by
  have sink : s.sink sp = .inst ∨ s.sink sp = .data ∨ s.sink sp = .addr := by
    unfold State.sink
    split
    · exact .inl rfl
    · exact .inr isSink
  calc s.restoreWindow (s.accumulate p sp operand size)
    _ = s.restoreWindow ((s.commit p).append (s.sink sp) operand) := rfl
    _ = s.restoreWindow (s.commit p) := State.restoreWindow_append s _ operand sink
    _ = s.restoreWindow ((s.rewriteOpcode p.rewrite).append .inst p.bytes) := rfl
    _ = s.restoreWindow (s.rewriteOpcode p.rewrite) := State.restoreWindow_append s _ p.bytes (.inl rfl)
    _ = s.restoreWindow { s.rewriteOpcode p.rewrite with inst := s.inst } := rfl
    _ = s := congrArg s.restoreWindow (State.rewriteOpcode_frame s p.rewrite)

/-- The operand bytes stand after the plan's bytes, or in another space (rule R214). -/
theorem State.inst_before_operand (isSink : sp = .data ∨ sp = .addr) {a : Nat}
    (before : a < s.instLen + p.bytes.length) : .inst ≠ s.sink sp ∨ a < s.operandStart sp p := by
  cases format : s.interleaved with
  | true => exact .inr (State.operandStart_of_interleaved format ▸ before)
  | false =>
    refine .inl ?_
    rw [State.sink_of_standard format]
    obtain rfl | rfl := isSink <;> decide

/-- The bytes of INST before the end of the plan's bytes are those that committing the plan leaves. -/
theorem State.readByte_accumulate_inst (isSink : sp = .data ∨ sp = .addr) {a : Nat}
    (before : a < s.instLen + p.bytes.length) :
    (s.accumulate p sp operand size).readByte .inst a = (s.commit p).readByte .inst a :=
  State.readByte_accumulate_outside isSink ((State.inst_before_operand isSink before).imp_right .inl)

/-- The operand bytes stand in the sink (rules R214, R217 to R219). -/
theorem State.readBytes_accumulate_sink (isSink : sp = .data ∨ sp = .addr) :
    (s.accumulate p sp operand size).readBytes (s.sink sp) (s.operandStart sp p) operand.length = operand := by
  rw [← State.len_sink_commit isSink]
  exact Eq.trans (State.readBytes_congr fun i _ => State.readByte_accumulate _ _)
    ((s.commit p).readBytes_append_self (s.sink sp) operand)

/-- What accumulating an instruction leaves of every byte and register, for any plan that rewrites only an
opcode byte of the window (rules R215, R217 to R219). -/
theorem State.accumulated_accumulate (isSink : sp = .data ∨ sp = .addr)
    (below : p.rewrite ≠ none → s.lastOpcodeIndex.toNat < s.instLen) :
    s.Accumulated (s.accumulate p sp operand size) p sp operand size where
  rewritten b rewrite := by
    have lt := below (rewrite ▸ Option.some_ne_none b)
    rw [State.readByte_accumulate_inst isSink (by omega), State.readByte_commit_outside (.inr (.inl lt)), rewrite]
    exact State.readByte_writeByte_self s .inst _ b
  planned := by
    refine Eq.trans (State.readBytes_congr fun i lt => ?_) (s.readBytes_commit (p := p))
    exact State.readByte_accumulate_inst isSink (by omega)
  operands := State.readBytes_accumulate_sink isSink
  kept_bytes sp' a other := by
    have appended : sp' ≠ s.sink sp ∨ a < s.operandStart sp p ∨ s.operandStart sp p + operand.length ≤ a := by
      by_contra inside
      push Not at inside
      exact other (.inr (.inr inside))
    have planned : sp' ≠ .inst ∨ a < s.instLen ∨ s.instLen + p.bytes.length ≤ a := by
      by_contra inside
      push Not at inside
      exact other (.inr (.inl inside))
    rw [State.readByte_accumulate_outside isSink appended, State.readByte_commit_outside planned]
    exact State.readByte_rewriteOpcode_of_ne fun rewritten => other (.inl rewritten)
  inst_len := by
    refine (State.len_accumulate isSink .inst).trans (congrArg (s.instLen + p.bytes.length + ·) ?_)
    exact if_congr (State.inst_eq_sink_iff isSink) rfl rfl
  data_len := by
    refine (State.len_accumulate isSink .data).trans (congrArg (s.dataLen + ·) ?_)
    exact if_congr (State.data_eq_sink_iff isSink) rfl rfl
  addr_len := by
    refine (State.len_accumulate isSink .addr).trans (congrArg (s.addrLen + ·) ?_)
    exact if_congr (State.addr_eq_sink_iff isSink) rfl rfl
  last_opcode := State.accumulate_lastOpcodeIndex s p sp operand size
  target_len := State.accumulate_winTargetLen s p sp operand size
  in_window := rfl
  reader_start := rfl
  kept := (State.restoreWindow_accumulate isSink).trans (by rw [State.accumulate_cache])

/-- The same with the cache updated, as a COPY does, where the sizes of the cache stay (rule R219). -/
theorem State.accumulated_accumulate_cache (isSink : sp = .data ∨ sp = .addr)
    (below : p.rewrite ≠ none → s.lastOpcodeIndex.toNat < s.instLen) {cache : AddrCache}
    (near : cache.nearSize = s.cache.nearSize) (same : cache.sameSize = s.cache.sameSize) :
    s.Accumulated ({ s with cache := cache }.accumulate p sp operand size) p sp operand size :=
  { State.accumulated_accumulate (s := { s with cache := cache }) isSink below with
    reader_start := by rw [State.accumulate_reader, near, same] }

end Accumulate

/-! ### The instruction commands: their operands -/

section SizeFault

variable {s : State} {a : Field}

theorem State.sizeFault_of_uninit (idle : s.serState = .uninit) : s.sizeFault a = some (.badState, 0) := if_pos idle

variable (opened : s.serState ≠ .uninit)

include opened

theorem State.sizeFault_of_neg (neg : s64 a < 0) : s.sizeFault a = some (.negativeValue, a) := by
  rw [State.sizeFault, if_neg opened, if_pos neg]

theorem State.sizeFault_of_tooLong (nonneg : 0 ≤ s64 a)
    (tooLong : s64 a = 0 ∨ (max32 : Int) < (s.winSrcSize + s.winTargetLen : Nat) + s64 a) :
    s.sizeFault a = some (.badOperand, a) := by
  rw [State.sizeFault, if_neg opened, if_neg (not_lt.mpr nonneg)]
  split_ifs
  · rfl
  · rfl
  · omega

theorem State.sizeFault_of_fits (pos : 0 < s64 a)
    (le : (s.winSrcSize + s.winTargetLen : Nat) + s64 a ≤ max32) : s.sizeFault a = none := by
  rw [State.sizeFault, if_neg opened, if_neg (by omega), if_neg (by omega), if_neg (by omega)]

end SizeFault

section Instructions

variable {s : State} {a0 a1 : Field} (running : s.failed = false)

include running

theorem exec_serAdd_of_sizeFault {c : Cause} {i : Field} (fault : s.sizeFault a1 = some (c, i)) :
    exec (.serAdd a0 a1) s = .next (s.takeFault 0x62 c i) := by
  change command 0x62 s _ = _
  rw [fault, command_raise (.inl running)]

theorem exec_serRun_of_sizeFault {c : Cause} {i : Field} (fault : s.sizeFault a0 = some (c, i)) :
    exec (.serRun a0 a1) s = .next (s.takeFault 0x63 c i) := by
  change command 0x63 s _ = _
  rw [fault, command_raise (.inl running)]

theorem exec_serCopy_of_sizeFault {c : Cause} {i : Field} (fault : s.sizeFault a1 = some (c, i)) :
    exec (.serCopy a0 a1) s = .next (s.takeFault 0x64 c i) := by
  change command 0x64 s _ = _
  rw [fault, command_raise (.inl running)]

theorem exec_serAdd_of_badSource (size : s.sizeFault a1 = none)
    (bad : max32 < a0.toNat ∨ s.tgtSize < a0.toNat + a1.toNat) :
    exec (.serAdd a0 a1) s = .next (s.takeFault 0x62 .badOperand a0) := by
  change command 0x62 s _ = _
  rw [size]
  dsimp only
  rw [if_pos bad, command_raise (.inl running)]

theorem exec_serRun_of_badByte (size : s.sizeFault a0 = none) (bad : 255 < a1.toNat) :
    exec (.serRun a0 a1) s = .next (s.takeFault 0x63 .badOperand a1) := by
  change command 0x63 s _ = _
  rw [size]
  dsimp only
  rw [if_pos bad, command_raise (.inl running)]

theorem exec_serCopy_of_badAddress (size : s.sizeFault a1 = none)
    (bad : s64 a0 < 0 ∨ (s.hereAddress : Int) ≤ s64 a0) :
    exec (.serCopy a0 a1) s = .next (s.takeFault 0x64 .badOperand a0) := by
  change command 0x64 s _ = _
  rw [size]
  dsimp only
  rw [if_pos bad, command_raise (.inl running)]

omit running

/-- What SER_ADD decides for operands in range (rule R217). -/
theorem exec_serAdd_of_inRange (size : s.sizeFault a1 = none)
    (good : ¬ (max32 < a0.toNat ∨ s.tgtSize < a0.toNat + a1.toNat)) :
    exec (.serAdd a0 a1) s =
      command 0x62 s (serResult s { s with cache := s.cache } instAdd a1.toNat 0 .data
        (s.readBytes .tgt a0.toNat a1.toNat) 0 0) := by
  change command 0x62 s _ = _
  rw [size]
  dsimp only
  rw [if_neg good]

/-- What SER_RUN decides for operands in range (rule R218). -/
theorem exec_serRun_of_inRange (size : s.sizeFault a0 = none) (good : ¬ 255 < a1.toNat) :
    exec (.serRun a0 a1) s =
      command 0x63 s (serResult s { s with cache := s.cache } instRun a0.toNat 0 .data
        [BitVec.ofNat 8 a1.toNat] 0 0) := by
  change command 0x63 s _ = _
  rw [size]
  dsimp only
  rw [if_neg good]

/-- The mode, the value and the length SER_COPY takes for an address (rules R173, R219). -/
def State.copyChoice (s : State) (addr : Nat) : AddrChoice := s.cache.choose addr s.hereAddress

/-- The address field SER_COPY appends (rules R102, R219). -/
def State.copyField (s : State) (addr : Nat) : List Byte :=
  s.cache.addressField (s.copyChoice addr).mode (s.copyChoice addr).value

/-- What SER_COPY decides for operands in range (rule R219). -/
theorem exec_serCopy_of_inRange (size : s.sizeFault a1 = none)
    (good : ¬ (s64 a0 < 0 ∨ (s.hereAddress : Int) ≤ s64 a0)) :
    exec (.serCopy a0 a1) s =
      command 0x64 s (serResult s { s with cache := s.cache.update a0.toNat } instCopy a1.toNat
        (s.copyChoice a0.toNat).mode .addr (s.copyField a0.toNat) (field (s.copyChoice a0.toNat).mode)
        (field (s.copyChoice a0.toNat).value)) := by
  have addr : (s64 a0).toNat = a0.toNat := congrArg Int.toNat (s64_of_nonneg (by omega))
  change command 0x64 s _ = _
  rw [size]
  dsimp only
  rw [if_neg good, addr]
  rfl

end Instructions

/-- Settles O45: the size is checked first, then the other operand. -/
theorem serInstructionFaults : Obligations.SerInstructionFaults := by
  intro s a0 a1 running
  refine ⟨fun idle => ?idle, fun opened => ?opened⟩
  case idle =>
    have fault {a : Field} : s.sizeFault a = some (.badState, 0) := State.sizeFault_of_uninit idle
    exact ⟨exec_serAdd_of_sizeFault running fault, exec_serRun_of_sizeFault running fault,
      exec_serCopy_of_sizeFault running fault⟩
  case opened =>
    refine ⟨fun neg => ?_, fun nonneg tooLong => ?_, fun neg => ?_, fun nonneg tooLong => ?_,
      fun ⟨pos, le⟩ => exec_serAdd_of_badSource running (State.sizeFault_of_fits opened pos le),
      fun ⟨pos, le⟩ => exec_serRun_of_badByte running (State.sizeFault_of_fits opened pos le),
      fun ⟨pos, le⟩ => exec_serCopy_of_badAddress running (State.sizeFault_of_fits opened pos le)⟩
    · have fault := State.sizeFault_of_neg opened neg
      exact ⟨exec_serAdd_of_sizeFault running fault, exec_serCopy_of_sizeFault running fault⟩
    · have fault := State.sizeFault_of_tooLong opened nonneg tooLong
      exact ⟨exec_serAdd_of_sizeFault running fault, exec_serCopy_of_sizeFault running fault⟩
    · exact exec_serRun_of_sizeFault running (State.sizeFault_of_neg opened neg)
    · exact exec_serRun_of_sizeFault running (State.sizeFault_of_tooLong opened nonneg tooLong)

/-! ### The instruction commands: the capacity check and the accumulation -/

section SerResult

variable {op : Byte} {s t : State} {inst : Byte} {size mode : Nat} {sp : Space} {operand : List Byte}
  {r0 r1 : Field} {p : Plan}

theorem command_serResult_of_fits (running : s.failed = false) (planned : s.plan inst size mode = some p)
    (fits : s.fits p sp operand.length) :
    command op s (serResult s t inst size mode sp operand r0 r1) =
      .next ((t.accumulate p sp operand size).respond (Response.okay r0 r1 0 0)) := by
  rw [serResult, planned]
  dsimp only
  rw [State.overflow_of_fits fits]
  exact command_ok (.inl running) _ _ _ _ _

theorem command_serResult_of_lacks (running : s.failed = false) (planned : s.plan inst size mode = some p)
    {full : Nat} (lacks : s.lacks p sp operand.length full) :
    command op s (serResult s t inst size mode sp operand r0 r1) =
      .next (s.takeFault op .capacity (field full)) := by
  obtain ⟨space, overflow, rfl⟩ := State.overflow_of_lacks lacks
  rw [serResult, planned]
  dsimp only
  rw [overflow]
  exact command_raise (.inl running) _ _

/-- A plan rewrites no byte but an opcode of the window (rule R225 b). -/
theorem State.SerInv.rewrite_below (h : s.SerInv) (planned : s.plan inst size mode = some p)
    (rewrites : p.rewrite ≠ none) : s.lastOpcodeIndex.toNat < s.instLen := by
  have last := State.plan_rewrite planned rewrites
  obtain none | ⟨-, lt, -⟩ := h.last_opcode <;> omega

/-- An instruction that the serializer accepts has a plan; where its bytes fit it is accumulated, and where they
lack room the command ends with CAPACITY (rules R200, R215, R217 to R219). -/
theorem State.SerInv.serResult_completes (h : s.SerInv) (running : s.failed = false)
    (opened : s.serState ≠ .uninit) (accepted : s.cache.Accepts inst mode) (isSink : sp = .data ∨ sp = .addr)
    {cache : AddrCache} (near : cache.nearSize = s.cache.nearSize) (same : cache.sameSize = s.cache.sameSize) :
    ∃ p, s.plan inst size mode = some p ∧
      (s.fits p sp operand.length → ∃ t : State,
        command op s (serResult s { s with cache := cache } inst size mode sp operand r0 r1) =
          .next (t.respond (Response.okay r0 r1 0 0)) ∧
        s.Accumulated t p sp operand size ∧ t.cache = cache) ∧
      ∀ full, s.lacks p sp operand.length full →
        command op s (serResult s { s with cache := cache } inst size mode sp operand r0 r1) =
          .next (s.takeFault op .capacity (field full)) := by
  obtain ⟨p, planned⟩ := h.exists_plan opened accepted size
  exact ⟨p, planned,
    fun fits => ⟨_, command_serResult_of_fits running planned fits,
      State.accumulated_accumulate_cache isSink (h.rewrite_below planned) near same, by simp⟩,
    fun full => command_serResult_of_lacks running planned⟩

end SerResult

/-- Settles O44, each command with its own operand and sink. -/
theorem serInstructionsComplete : Obligations.SerInstructionsComplete := by
  intro s a0 a1 running h _ opened
  refine ⟨fun pos le inside word => ?add, fun pos le isByte => ?run, fun pos le nonneg lt => ?copy⟩
  case add =>
    rw [exec_serAdd_of_inRange (State.sizeFault_of_fits opened pos le) (by omega)]
    have completes := h.serResult_completes (op := 0x62) (size := a1.toNat)
      (operand := s.readBytes .tgt a0.toNat a1.toNat) (r0 := 0) (r1 := 0) running opened (.inl ⟨rfl, rfl⟩)
      (.inl rfl) (cache := s.cache) rfl rfl
    rwa [State.length_readBytes] at completes
  case run =>
    rw [exec_serRun_of_inRange (State.sizeFault_of_fits opened pos le) (by omega)]
    exact h.serResult_completes (operand := [BitVec.ofNat 8 a1.toNat]) running opened (.inr (.inl ⟨rfl, rfl⟩))
      (.inl rfl) rfl rfl
  case copy =>
    have inside : ¬ (s64 a0 < 0 ∨ (s.hereAddress : Int) ≤ s64 a0) := not_or.mpr ⟨not_lt.mpr nonneg, not_le.mpr lt⟩
    rw [exec_serCopy_of_inRange (State.sizeFault_of_fits opened pos le) inside]
    exact h.serResult_completes running opened (s.cache.accepts_choose _ _) (.inr rfl) rfl rfl

end Sys2Proof.Machine

/-! ## The serializer's other commands: the stream, the source segment, the checksum and the output
(45_serializer.md)

One equation per ending of each command. SER_START and SER_OUTPUT both append to OUT and clear the window: one
lemma says what that leaves (O41, O46); the settings write registers alone (O42). -/

namespace Sys2Proof.Machine

/-! ### SER_START -/

/-- An append to OUT changes the bytes of OUT, and moves OUT_LEN past what was appended. -/
theorem State.append_out_eq (s : State) (bs : List Byte) :
    { s.append .out bs with out := s.out } = { s with outLen := s.outLen + bs.length } :=
  congrArg (fun t : State => { t with outLen := s.outLen + bs.length }) (s.writeBytes_out_frame s.outLen bs)

/-- What an append to OUT leaves of the bytes, whatever registers are written with it (20_memory.md rules R62,
R66). -/
theorem State.bytes_of_append_out {s t : State} {bs : List Byte}
    (mem : ∀ sp, t.mem sp = (s.append .out bs).mem sp) (epoch : t.epoch = s.epoch) :
    t.readBytes .out s.outLen bs.length = bs ∧
      ∀ sp a, sp ≠ .out ∨ a < s.outLen ∨ s.outLen + bs.length ≤ a → t.readByte sp a = s.readByte sp a := by
  have same (sp : Space) (a : Nat) : t.readByte sp a = (s.append .out bs).readByte sp a :=
    State.readByte_congr (mem sp) (epoch.trans (s.append_epoch .out bs).symm) a
  refine ⟨(State.readBytes_congr fun i _ => same .out _).trans (s.readBytes_append_self .out bs),
    fun sp a outside => (same sp a).trans (s.readByte_append_outside bs outside)⟩

/-- The file header (30_encoding.md rule R104). -/
def fileHeader (flags : Field) : List Byte := [0xD6, 0xC3, 0xC4, if flags = 0 then 0x00 else 0x53, 0x00]

/-- The state SER_START leaves: the header in OUT, the flags set, the source segment and the window cleared
(rules R211, R222). -/
def State.started (s : State) (flags : Field) : State :=
  { ((s.setFormatFlags (u64 flags)).clearWindow).append .out (fileHeader flags) with
    winSrcMode := .none, winSrcSize := 0, winSrcPos := 0, serState := .ready }

theorem State.started_frame (s : State) (flags : Field) :
    { s.started flags with out := s.out } =
      { s with
        serState := .ready, outLen := s.outLen + 5, interleaved := flags.getLsbD 0,
        checksumOn := flags.getLsbD 1, winSrcMode := .none, winSrcSize := 0, winSrcPos := 0, dataLen := 0,
        instLen := 0, addrLen := 0, winTargetLen := 0, lastOpcodeIndex := -1, winHasChecksum := false,
        winChecksum := 0, cache := ⟨s.cache.nearSize, s.cache.sameSize, 0, [], []⟩,
        reader := Reader.atStart s.cache.nearSize s.cache.sameSize } :=
  congrArg (fun t : State => { t with
    winSrcMode := .none, winSrcSize := 0, winSrcPos := 0, serState := .ready })
    (((s.setFormatFlags (u64 flags)).clearWindow).append_out_eq (fileHeader flags))

theorem State.started_bytes (s : State) (flags : Field) :
    (s.started flags).readBytes .out s.outLen 5 = fileHeader flags ∧
      ∀ sp a, sp ≠ .out ∨ a < s.outLen ∨ s.outLen + 5 ≤ a →
        (s.started flags).readByte sp a = s.readByte sp a :=
  State.bytes_of_append_out (s := (s.setFormatFlags (u64 flags)).clearWindow) (t := s.started flags)
    (bs := fileHeader flags) (fun sp => by cases sp <;> simp [State.started, State.mem]) (by simp [State.started])

section SerStart

variable {s : State} {a0 : Field} (running : s.failed = false)

include running

theorem exec_serStart_of_open (opened : s.serState ≠ .uninit) :
    exec (.serStart a0) s = .next (s.takeFault 0x60 .badState (field s.serState.code)) := by
  change command 0x60 s (ite _ _ _) = _
  rw [if_pos opened, State.badState, command_raise (.inl running)]

variable (idle : s.serState = .uninit)

include idle

theorem exec_serStart_of_badFlags (bad : 3 < u64 a0) :
    exec (.serStart a0) s = .next (s.takeFault 0x60 .badOperand a0) := by
  change command 0x60 s (ite _ _ _) = _
  rw [if_neg (not_not.mpr idle), if_pos bad, command_raise (.inl running)]

variable (flags : u64 a0 ≤ 3)

include flags

theorem exec_serStart_of_invalidTable (invalid : s.ctValid = false) :
    exec (.serStart a0) s = .next (s.takeFault 0x60 .badState 0x100) := by
  change command 0x60 s (ite _ _ _) = _
  rw [if_neg (not_not.mpr idle), if_neg (not_lt.mpr flags), if_pos invalid, command_raise (.inl running)]

variable (valid : s.ctValid = true)

include valid

theorem exec_serStart_of_modes (lacks : s.ctMaxMode < 1 + s.cache.nearSize + s.cache.sameSize) :
    exec (.serStart a0) s = .next (s.takeFault 0x60 .badState 0x200) := by
  change command 0x60 s (ite _ _ _) = _
  rw [if_neg (not_not.mpr idle), if_neg (not_lt.mpr flags), if_neg (by simp [valid]), if_pos lacks,
    command_raise (.inl running)]

variable (modes : 1 + s.cache.nearSize + s.cache.sameSize ≤ s.ctMaxMode)

include modes

theorem exec_serStart_of_full (full : s.params.outCap < s.outLen + 5) :
    exec (.serStart a0) s = .next (s.takeFault 0x60 .capacity 6) := by
  have lacks : ¬ s.hasRoom .out 5 = true := fun room => not_lt.mpr (State.hasRoom_iff.mp room) full
  change command 0x60 s (ite _ _ _) = _
  rw [if_neg (not_not.mpr idle), if_neg (not_lt.mpr flags), if_neg (by simp [valid]), if_neg (not_lt.mpr modes),
    if_pos lacks, command_raise (.inl running)]
  rfl

theorem exec_serStart_of_room (room : s.outLen + 5 ≤ s.params.outCap) :
    exec (.serStart a0) s = .next ((s.started a0).respond (Response.okay 5 0 0 0)) := by
  have fits : s.hasRoom .out 5 = true := State.hasRoom_iff.mpr room
  have none : u64 a0 = 0 ↔ a0 = 0 := BitVec.toNat_inj (y := 0)
  change command 0x60 s (ite _ _ _) = _
  rw [if_neg (not_not.mpr idle), if_neg (not_lt.mpr flags), if_neg (by simp [valid]), if_neg (not_lt.mpr modes),
    if_neg (not_not.mpr fits), command_ok (.inl running)]
  simp only [none]
  rfl

end SerStart

/-- Settles O41, check by check; the header is what was appended to OUT. -/
theorem serStartCompletes : Obligations.SerStartCompletes := by
  intro s a0 running
  refine ⟨exec_serStart_of_open running, fun idle => ⟨exec_serStart_of_badFlags running idle,
    exec_serStart_of_invalidTable running idle, exec_serStart_of_modes running idle,
    exec_serStart_of_full running idle, fun flags valid modes room =>
      ⟨s.started a0, exec_serStart_of_room running idle flags valid modes room, ?header, fun sp a outside => ?kept,
        s.started_frame a0⟩⟩⟩
  case header => exact (s.started_bytes a0).1
  case kept => exact (s.started_bytes a0).2 sp a outside

/-! ### SER_OUTPUT -/

/-- The state SER_OUTPUT leaves where it writes a window: the bytes in OUT, the window cleared (rules R221,
R222). -/
def State.written (s : State) : State :=
  { (s.append .out s.windowBytes).clearWindow with serState := .ready }

theorem State.written_bytes (s : State) :
    s.written.readBytes .out s.outLen s.windowBytes.length = s.windowBytes ∧
      ∀ sp a, sp ≠ .out ∨ a < s.outLen ∨ s.outLen + s.windowBytes.length ≤ a →
        s.written.readByte sp a = s.readByte sp a :=
  State.bytes_of_append_out (fun sp => by cases sp <;> simp [State.written, State.mem]) (by simp [State.written])

section SerOutput

variable {s : State} (running : s.failed = false)

include running

theorem exec_serOutput_of_uninit (idle : s.serState = .uninit) :
    exec .serOutput s = .next (s.takeFault 0x66 .badState 0) := by
  change command 0x66 s (ite _ _ _) = _
  rw [if_pos idle, command_raise (.inl running)]

variable (opened : s.serState ≠ .uninit)

include opened

theorem exec_serOutput_of_empty (empty : s.winTargetLen = 0) :
    exec .serOutput s =
      .next ({ s.clearWindow with serState := .ready }.respond (Response.okay 0 0 0 0)) := by
  change command 0x66 s (ite _ _ _) = _
  rw [if_neg opened, if_pos empty, command_ok (.inl running)]
  rfl

variable (pending : s.winTargetLen ≠ 0)

include pending

theorem exec_serOutput_of_full (full : s.params.outCap < s.outLen + s.windowBytes.length) :
    exec .serOutput s = .next (s.takeFault 0x66 .capacity 6) := by
  have lacks : ¬ s.hasRoom .out s.windowBytes.length = true :=
    fun room => not_lt.mpr (State.hasRoom_iff.mp room) full
  change command 0x66 s (ite _ _ _) = _
  rw [if_neg opened, if_neg pending, if_pos lacks, command_raise (.inl running)]
  rfl

theorem exec_serOutput_of_room (room : s.outLen + s.windowBytes.length ≤ s.params.outCap) :
    exec .serOutput s =
      .next (s.written.respond (Response.okay (field s.windowBytes.length) 0 0 0)) := by
  have fits : s.hasRoom .out s.windowBytes.length = true := State.hasRoom_iff.mpr room
  change command 0x66 s (ite _ _ _) = _
  rw [if_neg opened, if_neg pending, if_neg (not_not.mpr fits), command_ok (.inl running)]
  rfl

end SerOutput

/-- Settles O46: the model's window is the layout written out, and OUT takes it whole. -/
theorem serOutputCompletes : Obligations.SerOutputCompletes := by
  intro s running body fields segment indicator bytes cleared
  have layout : bytes = s.windowBytes := by
    have segment_eq : segment =
        if s.winSrcMode = .none then [] else varintEncode s.winSrcSize ++ varintEncode s.winSrcPos := by
      cases mode : s.winSrcMode <;> simp [segment, mode]
    have indicator_eq : indicator = s.winIndicator := by
      cases mode : s.winSrcMode <;> cases checksum : s.winHasChecksum <;>
        simp [indicator, State.winIndicator, WinSource.code, mode, checksum]
    simp only [bytes, segment_eq, indicator_eq]
    rfl
  rw [layout]
  refine ⟨exec_serOutput_of_uninit running, fun opened => ⟨exec_serOutput_of_empty running opened,
    exec_serOutput_of_full running opened, fun pending room =>
      ⟨s.written, exec_serOutput_of_room running opened pending room, ?stored, fun sp a outside => ?kept, ?frame⟩⟩⟩
  case stored => exact s.written_bytes.1
  case kept => exact s.written_bytes.2 sp a outside
  case frame =>
    exact congrArg (fun t : State => { t.clearWindow with serState := .ready }) (s.append_out_eq s.windowBytes)

/-! ### SER_WINDOW, SER_CHECKSUM, SER_FINISH -/

theorem WinSource.ofNumber_of_gt {n : Nat} (gt : 2 < n) : WinSource.ofNumber n = Option.none := by
  obtain ⟨k, rfl⟩ := Nat.exists_eq_add_of_lt gt
  rw [show 2 + k + 1 = k + 3 by omega]
  rfl

theorem WinSource.exists_ofNumber {n : Nat} (le : n ≤ 2) : ∃ m, WinSource.ofNumber n = some m := by
  interval_cases n
  exacts [⟨.none, rfl⟩, ⟨.source, rfl⟩, ⟨.target, rfl⟩]

section Settings

variable {s : State} {a0 a1 a2 : Field} (running : s.failed = false)

include running

theorem exec_serWindow_of_notReady (other : s.serState ≠ .ready) :
    exec (.serWindow a0 a1 a2) s = .next (s.takeFault 0x61 .badState (field s.serState.code)) := by
  change command 0x61 s (ite _ _ _) = _
  rw [if_pos other, State.badState, command_raise (.inl running)]

section Ready

variable (ready : s.serState = .ready)

include ready

theorem exec_serWindow_of_badMode (bad : 2 < u64 a0) :
    exec (.serWindow a0 a1 a2) s = .next (s.takeFault 0x61 .badOperand a0) := by
  change command 0x61 s (ite _ _ _) = _
  rw [if_neg (not_not.mpr ready), WinSource.ofNumber_of_gt bad, command_raise (.inl running)]

theorem exec_serWindow_of_badSize (mode : u64 a0 ≤ 2) (bad : max32 < u64 a1) :
    exec (.serWindow a0 a1 a2) s = .next (s.takeFault 0x61 .badOperand a1) := by
  obtain ⟨m, named⟩ := WinSource.exists_ofNumber mode
  change command 0x61 s (ite _ _ _) = _
  rw [if_neg (not_not.mpr ready), named]
  dsimp only
  rw [if_pos bad, command_raise (.inl running)]

theorem exec_serWindow_of_badPos (mode : u64 a0 ≤ 2) (size : u64 a1 ≤ max32) (bad : max32 < u64 a2) :
    exec (.serWindow a0 a1 a2) s = .next (s.takeFault 0x61 .badOperand a2) := by
  obtain ⟨m, named⟩ := WinSource.exists_ofNumber mode
  change command 0x61 s (ite _ _ _) = _
  rw [if_neg (not_not.mpr ready), named]
  dsimp only
  rw [if_neg (not_lt.mpr size), if_pos bad, command_raise (.inl running)]

theorem exec_serWindow_of_inRange {m : WinSource} (named : WinSource.ofNumber (u64 a0) = some m)
    (size : u64 a1 ≤ max32) (pos : u64 a2 ≤ max32) :
    exec (.serWindow a0 a1 a2) s =
      .next ({ s with
        winSrcMode := m
        winSrcSize := if u64 a0 = 0 then 0 else u64 a1
        winSrcPos := if u64 a0 = 0 then 0 else u64 a2 }.respond (Response.okay 0 0 0 0)) := by
  change command 0x61 s (ite _ _ _) = _
  rw [if_neg (not_not.mpr ready), named]
  dsimp only
  rw [if_neg (not_lt.mpr size), if_neg (not_lt.mpr pos), command_done (.inl running)]

theorem exec_serFinish_of_ready :
    exec .serFinish s = .next ({ s with serState := .uninit }.respond (Response.okay 0 0 0 0)) := by
  change command 0x67 s (ite _ _ _) = _
  rw [if_neg (by simp [ready]), if_neg (by simp [ready]), command_done (.inl running)]

end Ready

theorem exec_serFinish_of_uninit (idle : s.serState = .uninit) :
    exec .serFinish s = .next (s.takeFault 0x67 .badState 0) := by
  change command 0x67 s (ite _ _ _) = _
  rw [if_pos idle, command_raise (.inl running)]

theorem exec_serFinish_of_inWindow (pending : s.serState = .inWindow) :
    exec .serFinish s = .next (s.takeFault 0x67 .pendingWindow (field s.winTargetLen)) := by
  change command 0x67 s (ite _ _ _) = _
  rw [if_neg (by simp [pending]), if_pos pending, command_raise (.inl running)]

theorem exec_serChecksum_of_uninit (idle : s.serState = .uninit) :
    exec (.serChecksum a0) s = .next (s.takeFault 0x65 .badState 0) := by
  change command 0x65 s (ite _ _ _) = _
  rw [if_pos idle, command_raise (.inl running)]

variable (opened : s.serState ≠ .uninit)

include opened

theorem exec_serChecksum_of_off (off : s.checksumOn = false) :
    exec (.serChecksum a0) s = .next (s.takeFault 0x65 .badState 0x300) := by
  change command 0x65 s (ite _ _ _) = _
  rw [if_neg opened, if_pos off, command_raise (.inl running)]

theorem exec_serChecksum_of_badValue (on : s.checksumOn = true) (bad : 2 ^ 32 ≤ u64 a0) :
    exec (.serChecksum a0) s = .next (s.takeFault 0x65 .badOperand a0) := by
  change command 0x65 s (ite _ _ _) = _
  rw [if_neg opened, if_neg (by simp [on]), if_pos bad, command_raise (.inl running)]

theorem exec_serChecksum_of_inRange (on : s.checksumOn = true) (lt : u64 a0 < 2 ^ 32) :
    exec (.serChecksum a0) s =
      .next ({ s with winChecksum := u64 a0, winHasChecksum := true }.respond (Response.okay 0 0 0 0)) := by
  change command 0x65 s (ite _ _ _) = _
  rw [if_neg opened, if_neg (by simp [on]), if_neg (not_le.mpr lt), command_done (.inl running)]

end Settings

/-- Settles O42, command by command. -/
theorem serSettingsComplete : Obligations.SerSettingsComplete := by
  intro s a0 a1 a2 running
  refine ⟨exec_serWindow_of_notReady running, fun ready => ⟨exec_serWindow_of_badMode running ready,
      exec_serWindow_of_badSize running ready, exec_serWindow_of_badPos running ready,
      fun size pos => ⟨?_, ?_, ?_⟩⟩,
    fun idle => ⟨exec_serChecksum_of_uninit running idle, exec_serFinish_of_uninit running idle⟩,
    fun opened => ⟨exec_serChecksum_of_off running opened, exec_serChecksum_of_badValue running opened,
      exec_serChecksum_of_inRange running opened⟩,
    exec_serFinish_of_inWindow running, exec_serFinish_of_ready running⟩
  all_goals
    rintro rfl
    exact exec_serWindow_of_inRange running ready rfl size pos

end Sys2Proof.Machine

/-! ## The serializer's invariant: no step stops, and every step keeps it (45_serializer.md rule R225)

A command stops only where its rule is stuck, and the rule of an instruction is stuck only where there is no plan:
in no state of the invariant (O58). What the invariant and the reading of the window depend on is gathered in
`State.stream`; a command that leaves it alone keeps both, so only the commands that write it are looked at one by
one. -/

namespace Sys2Proof.Machine

/-! ### Every step goes on -/

/-- The rule ends with a response: the model does not stop. -/
def Result.Ends (r : Result) : Prop := ∀ f, r ≠ .stuck f

@[simp] theorem Result.ends_ok (s : State) (r0 r1 r2 r3 : Field) : (Result.ok s r0 r1 r2 r3).Ends := nofun

@[simp] theorem Result.ends_done (s : State) : (Result.done s).Ends := Result.ends_ok s 0 0 0 0

@[simp] theorem Result.ends_endOfData : Result.endOfData.Ends := nofun

@[simp] theorem Result.ends_raise (c : Cause) (info : Field) : (Result.raise c info).Ends := nofun

@[simp] theorem State.ends_badState (s : State) : s.badState.Ends := Result.ends_raise _ _

@[simp] theorem Result.ends_ite {c : Prop} [Decidable c] {r r' : Result} (yes : r.Ends) (no : r'.Ends) :
    (if c then r else r').Ends := by
  split
  · exact yes
  · exact no

theorem goesOn_command {op : Byte} {s : State} {r : Result} (ends : r.Ends) : goesOn (command op s r) := by
  unfold command
  split
  · exact ⟨_, rfl⟩
  · cases r with
    | ok | endOfData | raise => exact ⟨_, rfl⟩
    | stuck f => exact absurd rfl (ends f)

theorem varintLenResult_ends (width : VarWidth) (a0 : Field) (s : State) : (varintLenResult width a0 s).Ends := by
  unfold varintLenResult
  split <;> simp

theorem varintEncResult_ends (width : VarWidth) (a0 : Field) (s : State) : (varintEncResult width a0 s).Ends := by
  unfold varintEncResult
  split <;> simp

theorem varintParseResult_ends (width : VarWidth) (s : State) : (varintParseResult width s).Ends := by
  unfold varintParseResult
  split <;> simp

theorem State.SerInv.serResult_ends {s t : State} {inst : Byte} {size mode : Nat} {sp : Space}
    {operand : List Byte} {r0 r1 : Field} (h : s.SerInv) (opened : s.serState ≠ .uninit)
    (accepted : s.cache.Accepts inst mode) : (serResult s t inst size mode sp operand r0 r1).Ends := by
  obtain ⟨p, planned⟩ := h.exists_plan opened accepted size
  rw [serResult, planned]
  dsimp only
  split <;> simp

/-- The shape the rules of the three instructions share: the size is checked, then the other operand (rule
R216). -/
theorem instruction_ends {s : State} {a : Field} {bad : Prop} [Decidable bad] {c : Cause} {info : Field}
    {r : Result} (ends : s.serState ≠ .uninit → r.Ends) :
    Result.Ends (match s.sizeFault a with
      | some (c, i) => .raise c i
      | none => if bad then .raise c info else r) := by
  cases size : s.sizeFault a with
  | some fault => exact Result.ends_raise fault.1 fault.2
  | none =>
    dsimp only
    split
    · exact Result.ends_raise c info
    · exact ends (State.sizeFault_none size).1

/-- The commands' rules end, those of the three instructions because there is a plan (rule R200). -/
theorem State.SerInv.exec_goesOn {s : State} (h : s.SerInv) {i : Instr} {w : CommandWord}
    (hi : encode i = .command w) : goesOn (exec i s) := by
  cases i
  case serAdd =>
    exact goesOn_command (instruction_ends fun opened => h.serResult_ends opened (.inl ⟨rfl, rfl⟩))
  case serRun =>
    exact goesOn_command (instruction_ends fun opened => h.serResult_ends opened (.inr (.inl ⟨rfl, rfl⟩)))
  case serCopy =>
    exact goesOn_command (instruction_ends fun opened => h.serResult_ends opened (s.cache.accepts_choose _ _))
  case varintLen32 | varintLen64 => exact goesOn_command (varintLenResult_ends _ _ _)
  case varintEnc32 | varintEnc64 => exact goesOn_command (varintEncResult_ends _ _ _)
  case varintParse32 | varintParse64 => exact goesOn_command (varintParseResult_ends _ _)
  case nop | reset | sessionReset | rhInit | bmClear | outClear => exact goesOn_command (Result.ends_done _)
  all_goals
    cases hi
  all_goals
    refine goesOn_command ?_
    repeat' split
    all_goals simp

/-- Where the serializer's invariant holds, every step answers a next state. -/
theorem State.SerInv.step_goesOn {s : State} (h : s.SerInv) : goesOn (step s) := by
  have exec_all (rest : List Input) (i : Instr) : goesOn (exec i { s with inputs := rest }) := by
    obtain ⟨op, a0, a1, a2, a3, r, hi, -⟩ | ⟨b, -, read⟩ := exec_shape i { s with inputs := rest }
    · exact State.SerInv.exec_goesOn (s := { s with inputs := rest }) { h with } hi
    · rw [read]
      exact ⟨_, rfl⟩
  unfold step
  split
  · exact ⟨_, rfl⟩
  · unfold stepCommand
    split
    · exact exec_all _ _
    · exact ⟨_, rfl⟩
  · exact ⟨_, rfl⟩
  · unfold stepReader
    split
    · exact exec_all _ _
    · exact ⟨_, rfl⟩

/-! ### The part of the state that the window and its invariant depend on -/

/-- The sections of the window, the registers of the serializer, the cache and the code table. -/
structure Stream where
  inst : Sparse Byte
  data : Sparse Byte
  addr : Sparse Byte
  epoch : Nat
  instLen : Nat
  dataLen : Nat
  addrLen : Nat
  ct : Sparse CtEntry
  ctValid : Bool
  ctMaxMode : Nat
  cache : AddrCache
  interleaved : Bool
  winSrcSize : Nat
  winTargetLen : Nat
  lastOpcodeIndex : Int
  serState : SerState

/-- The stream of a state: its window, and what the window is read with. -/
def State.stream (s : State) : Stream where
  inst := s.inst
  data := s.data
  addr := s.addr
  epoch := s.epoch
  instLen := s.instLen
  dataLen := s.dataLen
  addrLen := s.addrLen
  ct := s.ct
  ctValid := s.ctValid
  ctMaxMode := s.ctMaxMode
  cache := s.cache
  interleaved := s.interleaved
  winSrcSize := s.winSrcSize
  winTargetLen := s.winTargetLen
  lastOpcodeIndex := s.lastOpcodeIndex
  serState := s.serState

section Stream

variable {s t : State}

theorem State.ctEntry_congr (same : t.ct = s.ct) : t.ctEntry = s.ctEntry := by
  unfold State.ctEntry
  rw [same]

theorem State.stream_eq_iff : t.stream = s.stream ↔
    t.inst = s.inst ∧ t.data = s.data ∧ t.addr = s.addr ∧ t.epoch = s.epoch ∧ t.instLen = s.instLen ∧
    t.dataLen = s.dataLen ∧ t.addrLen = s.addrLen ∧ t.ct = s.ct ∧ t.ctValid = s.ctValid ∧
    t.ctMaxMode = s.ctMaxMode ∧ t.cache = s.cache ∧ t.interleaved = s.interleaved ∧
    t.winSrcSize = s.winSrcSize ∧ t.winTargetLen = s.winTargetLen ∧ t.lastOpcodeIndex = s.lastOpcodeIndex ∧
    t.serState = s.serState := by
  simp only [State.stream, Stream.mk.injEq]

/-- The window is read alike in two states of the same stream. -/
theorem State.sameWindow_of_stream (same : t.stream = s.stream) : s.SameWindow t := by
  obtain ⟨inst, data, addr, epoch, instLen, dataLen, addrLen, ct, -, -, -, interleaved, srcSize, -⟩ :=
    State.stream_eq_iff.mp same
  exact ⟨State.readByte_congr (sp := .inst) inst epoch, State.readByte_congr (sp := .data) data epoch,
    State.readByte_congr (sp := .addr) addr epoch, instLen, dataLen, addrLen,
    congrFun (State.ctEntry_congr ct), interleaved, srcSize⟩

theorem State.windowReads_of_stream (same : t.stream = s.stream) {ds : List Delta} (reads : s.WindowReads ds) :
    t.WindowReads ds := by
  obtain ⟨-, -, -, -, -, -, -, -, -, -, cache, -, -, target, last, -⟩ := State.stream_eq_iff.mp same
  exact (State.sameWindow_of_stream same).reads cache target last reads

/-- The serializer's invariant depends on the stream alone. -/
theorem State.SerInv.of_stream (h : s.SerInv) (same : t.stream = s.stream) : t.SerInv := by
  obtain ⟨inst, -, -, epoch, instLen, dataLen, addrLen, ct, valid, maxMode, cache, -, srcSize, target, last,
    serState⟩ := State.stream_eq_iff.mp same
  have byte : t.readByte .inst = s.readByte .inst := funext (State.readByte_congr (sp := .inst) inst epoch)
  have table := State.ctEntry_congr ct
  constructor
  · rw [valid, table, maxMode]
    exact h.table_valid
  · rw [maxMode]
    exact h.max_mode_le
  · rw [serState, target, last]
    exact h.idle_empty
  · rw [serState, dataLen, instLen, addrLen, cache]
    exact h.ready_empty
  · rw [serState, target, instLen]
    exact h.window_nonempty
  · rw [last, instLen, table, byte]
    exact h.last_opcode
  · rw [srcSize, target]
    exact h.win_len_le
  · rw [serState, valid, cache, maxMode]
    exact h.open_valid

end Stream

/-- The numbers of the commands that write the stream. -/
def streamOps : List Byte :=
  [0x01, 0x02, 0x40, 0x41, 0x42, 0x43, 0x50, 0x51, 0x53, 0x60, 0x61, 0x62, 0x63, 0x64, 0x66, 0x67]

section Effect

variable {op : Byte} {s u t : State}

/-- Every other command leaves the stream as it was. -/
theorem Effect.stream_eq (e : Effect op s u) (other : op ∉ streamOps) : u.stream = s.stream := by
  cases e with
  | memWrite _ sp a v writable =>
    cases sp with
    | src | tgt | inp => rfl
    | data | inst | addr | out => cases writable
  | varintEnc _ _ v => exact (congrArg State.stream (s.append_out_frame (varintEncode v)) :)
  | accumulate _ _ _ _ _ _ _ _ _ which =>
    obtain ⟨rfl, -⟩ | ⟨rfl, -⟩ | ⟨rfl, -⟩ := which <;> exact absurd (by decide) other
  | reset | sessionReset | acConfig | acReset | acEncode | acDecode | ctDefault | ctWrite | ctValidate
  | serStart | serWindow | serOutputEmpty | serOutput | serFinish => exact absurd (by decide) other
  | _ => simp [State.stream]

theorem State.stream_respond (s : State) (r : Response) : (s.respond r).stream = s.stream := rfl

theorem State.stream_takeFault (s : State) (op : Byte) (c : Cause) (info : Field) :
    (s.takeFault op c info).stream = s.stream :=
  (congrArg State.stream (s.takeFault_frame op c info) :)

/-- SER_START leaves an empty window, whatever it writes to OUT (rules R211, R222). -/
theorem State.stream_startedWith (s : State) (flags : Nat) (bytes : List Byte) :
    { ((s.setFormatFlags flags).clearWindow).append .out bytes with
      winSrcMode := .none, winSrcSize := 0, winSrcPos := 0, serState := .ready }.stream =
    { (s.setFormatFlags flags).clearWindow with winSrcSize := 0, serState := .ready }.stream :=
  (congrArg (fun v : State => { v with winSrcSize := 0, serState := .ready }.stream)
    (((s.setFormatFlags flags).clearWindow).append_out_frame bytes) :)

/-- SER_OUTPUT leaves an empty window, whatever it writes to OUT (rules R221, R222). -/
theorem State.stream_written (s : State) :
    s.written.stream = { s.clearWindow with serState := .ready }.stream :=
  (congrArg (fun v : State => { v.clearWindow with serState := .ready }.stream)
    (s.append_out_frame s.windowBytes) :)

end Effect

/-! ### The default table is valid -/

theorem Half.legal_absent (maxMode : Nat) : Half.absent.Legal maxMode :=
  ⟨by decide, Nat.zero_le _, fun _ => ⟨rfl, rfl⟩, fun _ => rfl⟩

theorem Half.legal_add (size maxMode : Nat) : (Half.add size).Legal maxMode :=
  ⟨show instAdd.toNat ≤ 3 by decide, Nat.zero_le _, fun noop => absurd noop (show instAdd ≠ instNoop by decide),
    fun _ => rfl⟩

theorem Half.legal_run (size maxMode : Nat) : (Half.run size).Legal maxMode :=
  ⟨show instRun.toNat ≤ 3 by decide, Nat.zero_le _, fun noop => absurd noop (show instRun ≠ instNoop by decide),
    fun _ => rfl⟩

theorem Half.legal_copy (size : Nat) {mode maxMode : Nat} (le : mode ≤ maxMode) :
    (Half.copy size mode).Legal maxMode :=
  ⟨le_refl 3, (Nat.mod_le mode _).trans le, fun noop => absurd noop (show instCopy ≠ instNoop by decide),
    fun other => absurd other (show ¬ (instCopy = instAdd ∨ instCopy = instRun) by decide)⟩

/-- Every half of the default table is legal up to mode 8 (30_encoding.md rules R96 to R101). -/
theorem legal_defaultEntry {op : Nat} (lt : op < 256) : (defaultEntry op).Legal 8 := by
  unfold defaultEntry
  split_ifs
  · exact ⟨Half.legal_run 0 8, Half.legal_absent 8⟩
  · exact ⟨Half.legal_add _ 8, Half.legal_absent 8⟩
  · exact ⟨Half.legal_copy _ (by omega), Half.legal_absent 8⟩
  · exact ⟨Half.legal_copy _ (by omega), Half.legal_absent 8⟩
  · exact ⟨Half.legal_add _ 8, Half.legal_copy _ (by omega)⟩
  · exact ⟨Half.legal_add _ 8, Half.legal_copy _ (by omega)⟩
  · exact ⟨Half.legal_copy _ (by omega), Half.legal_add 1 8⟩

theorem isSingle_of_absent {h : Half} (present : h.inst ≠ instNoop) : (CtEntry.of h .absent).IsSingle h :=
  ⟨present, .inl ⟨rfl, rfl⟩⟩

/-- The default table passes validation for the modes 0 to 8 (44_code_table.md rules R191, R194). -/
theorem tableValid_default : tableValid defaultEntry 8 = true := by
  refine tableValid_iff.mpr ⟨fun op => legal_defaultEntry, fun h needed => ?_⟩
  obtain rfl | rfl | ⟨m, le, rfl⟩ := mem_neededHalves_iff.mp needed
  · exact ⟨1, by decide, isSingle_of_absent (by decide)⟩
  · exact ⟨0, by decide, isSingle_of_absent (by decide)⟩
  · refine ⟨19 + 16 * m, by omega, ?_⟩
    rw [defaultEntry_copy_unsized le]
    exact isSingle_of_absent (show instCopy ≠ instNoop by decide)

/-! ### The invariant after each command that writes the stream -/

section Keeps

variable {s : State}

/-- In UNINIT only the table, CT_VALID and CT_MAXMODE bear on the invariant. -/
theorem State.SerInv.of_uninit {t : State} (idle : t.serState = .uninit)
    (valid : t.ctValid = true → tableValid t.ctEntry t.ctMaxMode = true) (maxMode : t.ctMaxMode ≤ 255)
    (target : t.winTargetLen = 0) (last : t.lastOpcodeIndex = -1) (srcSize : t.winSrcSize ≤ max32) : t.SerInv where
  table_valid := valid
  max_mode_le := maxMode
  idle_empty _ := ⟨target, last⟩
  ready_empty ready := by cases idle.symm.trans ready
  window_nonempty pending := by cases idle.symm.trans pending
  last_opcode := .inl last
  win_len_le := by rwa [target]
  open_valid opened := absurd idle opened

/-- In READY the window is empty. -/
theorem State.SerInv.of_ready {t : State} (ready : t.serState = .ready) (valid : t.ctValid = true)
    (table : tableValid t.ctEntry t.ctMaxMode = true) (maxMode : t.ctMaxMode ≤ 255)
    (modes : t.cache.lastMode ≤ t.ctMaxMode)
    (target : t.winTargetLen = 0) (last : t.lastOpcodeIndex = -1)
    (empty : t.dataLen = 0 ∧ t.instLen = 0 ∧ t.addrLen = 0 ∧ t.cache = t.cache.clear)
    (srcSize : t.winSrcSize ≤ max32) : t.SerInv where
  table_valid _ := table
  max_mode_le := maxMode
  idle_empty _ := ⟨target, last⟩
  ready_empty _ := empty
  window_nonempty pending := by cases ready.symm.trans pending
  last_opcode := .inl last
  win_len_le := by rwa [target]
  open_valid _ := ⟨valid, modes⟩

theorem State.serInv_fullReset (s : State) : s.fullReset.SerInv :=
  .of_uninit rfl (fun _ => tableValid_default) (show 8 ≤ 255 by decide) rfl rfl (Nat.zero_le _)

theorem State.serInv_sessionReset (s : State) : s.sessionReset.SerInv :=
  .of_uninit rfl (fun _ => tableValid_default) (show 8 ≤ 255 by decide) rfl rfl (Nat.zero_le _)

/-- The segment size alone stays within its range. -/
theorem State.SerInv.srcSize_le (h : s.SerInv) : s.winSrcSize ≤ max32 := (Nat.le_add_right _ _).trans h.win_len_le

/-- A plan leaves INST with an opcode byte: it appends one, or there is one to rewrite. -/
theorem State.SerInv.planned_nonempty (h : s.SerInv) {inst : Byte} {size mode : Nat} {p : Plan}
    (planned : s.Planned inst size mode p) : 1 ≤ s.instLen + p.bytes.length := by
  cases planned with
  | merged k bytes spelled last found =>
    obtain none | ⟨-, lt, -⟩ := h.last_opcode <;> omega
  | single => simp only [List.length_cons]; omega

theorem State.bytesAt_of_readBytes {sp : Space} {i n : Nat} {bytes : List Byte}
    (read : s.readBytes sp i n = bytes) : BytesAt (s.readByte sp) i bytes := by
  subst read
  intro j lt
  rw [List.getElem?_eq_getElem lt, State.getElem_readBytes]

/-- A planned instruction that is accumulated keeps the invariant: the opcode byte that may be rewritten, if any,
is the single opcode of the plan (rules R215, R225 b). -/
theorem State.SerInv.accumulated (h : s.SerInv) {t : State} {p : Plan} {inst : Byte} {size mode : Nat}
    {sp : Space} {operand : List Byte} (opened : s.serState ≠ .uninit) (pos : 1 ≤ size)
    (le : s.winSrcSize + s.winTargetLen + size ≤ max32) (planned : s.plan inst size mode = some p)
    (a : s.Accumulated t p sp operand size) (near : t.cache.nearSize = s.cache.nearSize)
    (same : t.cache.sameSize = s.cache.sameSize) : t.SerInv := by
  have ct : t.ct = s.ct := (congrArg State.ct a.kept :)
  have valid : t.ctValid = s.ctValid := (congrArg State.ctValid a.kept :)
  have maxMode : t.ctMaxMode = s.ctMaxMode := (congrArg State.ctMaxMode a.kept :)
  have srcSize : t.winSrcSize = s.winSrcSize := (congrArg State.winSrcSize a.kept :)
  have table := State.ctEntry_congr ct
  constructor
  · rw [valid, table, maxMode]
    exact h.table_valid
  · rw [maxMode]
    exact h.max_mode_le
  · exact fun idle => absurd a.in_window idle
  · intro ready
    cases a.in_window.symm.trans ready
  · intro _
    rw [a.target_len, a.inst_len]
    have := h.planned_nonempty (State.planned_of_plan planned)
    omega
  · rw [a.last_opcode, a.inst_len, table]
    cases State.planned_of_plan planned with
    | merged => exact .inl rfl
    | single k bytes spelled found =>
      have head : t.readByte .inst s.instLen = byte (lookupFirst s.ctEntry (sizedHalf inst k mode)) :=
        (Option.some.inj (State.bytesAt_of_readBytes a.planned 0 (Nat.succ_pos _))).symm
      have stands := (lookupFirst_isLowest s.ctEntry (sizedHalf inst k mode)).holds found
      rw [Int.toNat_natCast, head, toNat_byte found]
      have inside : s.instLen < s.instLen + (bytes.length + 1) + if s.interleaved then operand.length else 0 := by
        omega
      exact .inr ⟨Int.natCast_nonneg _, Int.ofNat_lt.mpr inside, sizedHalf inst k mode,
        CtEntry.single_eq_some_iff.mpr stands, rfl⟩
  · rw [srcSize, a.target_len]
    omega
  · intro _
    rw [valid, AddrCache.lastMode, near, same, maxMode]
    exact h.open_valid opened

end Keeps

section Effect

variable {op : Byte} {s u t : State}

/-- What the accumulation of an instruction leaves, from what its command has checked. -/
theorem State.SerInv.accumulated_of_effect (h : s.SerInv) {inst : Byte} {size mode : Nat} {sp : Space}
    {operand : List Byte} {p : Plan} {cache : AddrCache}
    (which : op = 0x62 ∧ inst = instAdd ∧ mode = 0 ∧ sp = .data ∧ cache = s.cache ∨
      op = 0x63 ∧ inst = instRun ∧ mode = 0 ∧ sp = .data ∧ cache = s.cache ∨
      op = 0x64 ∧ inst = instCopy ∧ sp = .addr ∧
        ∃ a < s.hereAddress, cache = s.cache.update a ∧ mode = (s.cache.choose a s.hereAddress).mode)
    (planned : s.plan inst size mode = some p) :
    s.Accumulated ({ s with cache := cache }.accumulate p sp operand size) p sp operand size ∧
      cache.nearSize = s.cache.nearSize ∧ cache.sameSize = s.cache.sameSize := by
  have below := h.rewrite_below planned
  obtain ⟨-, -, -, rfl, rfl⟩ | ⟨-, -, -, rfl, rfl⟩ | ⟨-, -, rfl, a, -, rfl, -⟩ := which
  · exact ⟨State.accumulated_accumulate_cache (.inl rfl) below rfl rfl, rfl, rfl⟩
  · exact ⟨State.accumulated_accumulate_cache (.inl rfl) below rfl rfl, rfl, rfl⟩
  · exact ⟨State.accumulated_accumulate_cache (.inr rfl) below rfl rfl, rfl, rfl⟩

/-- Every update a command completes with keeps the serializer's invariant. -/
theorem Effect.serInv (e : Effect op s u) (h : s.SerInv) : u.SerInv := by
  by_cases other : op ∉ streamOps
  case pos => exact h.of_stream (e.stream_eq other)
  case neg =>
    have idleWindow (idle : s.serState = .uninit) := h.idle_empty (idle ▸ SerState.noConfusion)
    cases e with
    | same => exact h
    | reset => exact s.serInv_fullReset
    | sessionReset => exact s.serInv_sessionReset
    | acConfig _ _ _ idle | acReset _ idle | acEncode _ _ idle | acDecode _ _ _ idle =>
      exact .of_uninit idle h.table_valid h.max_mode_le (idleWindow idle).1 (idleWindow idle).2 h.srcSize_le
    | ctDefault _ idle =>
      exact .of_uninit idle (fun _ => tableValid_default) (show 8 ≤ 255 by decide) (idleWindow idle).1
        (idleWindow idle).2 h.srcSize_le
    | ctWrite _ _ _ idle =>
      exact .of_uninit idle nofun h.max_mode_le (idleWindow idle).1 (idleWindow idle).2 h.srcSize_le
    | ctValidate _ m idle lt valid =>
      exact .of_uninit idle (fun _ => valid) (Nat.le_of_lt_succ lt) (idleWindow idle).1 (idleWindow idle).2
        h.srcSize_le
    | serStart _ flags bytes idle valid modes =>
      refine .of_stream ?_ (s.stream_startedWith flags bytes)
      exact .of_ready rfl valid (h.table_valid valid) h.max_mode_le modes rfl rfl ⟨rfl, rfl, rfl, rfl⟩ (Nat.zero_le _)
    | serWindow _ m size pos ready sizeLe =>
      obtain ⟨valid, modes⟩ := h.open_valid (ready ▸ SerState.noConfusion)
      obtain ⟨target, last⟩ := h.idle_empty (ready ▸ SerState.noConfusion)
      exact .of_ready ready valid (h.table_valid valid) h.max_mode_le modes target last (h.ready_empty ready)
        sizeLe
    | accumulate _ _ inst size mode sp operand p cache which opened pos le planned =>
      obtain ⟨a, near, same⟩ := h.accumulated_of_effect which planned
      exact h.accumulated opened pos le planned a (by simpa using near) (by simpa using same)
    | serOutputEmpty _ opened =>
      obtain ⟨valid, modes⟩ := h.open_valid opened
      exact .of_ready rfl valid (h.table_valid valid) h.max_mode_le modes rfl rfl ⟨rfl, rfl, rfl, rfl⟩ h.srcSize_le
    | serOutput _ opened =>
      obtain ⟨valid, modes⟩ := h.open_valid opened
      refine .of_stream ?_ s.stream_written
      exact .of_ready rfl valid (h.table_valid valid) h.max_mode_le modes rfl rfl ⟨rfl, rfl, rfl, rfl⟩ h.srcSize_le
    | serFinish _ ready =>
      obtain ⟨target, last⟩ := h.idle_empty (ready ▸ SerState.noConfusion)
      exact .of_uninit rfl h.table_valid h.max_mode_le target last h.srcSize_le
    | varintEnc _ _ _ isEnc => obtain rfl | rfl := isEnc <;> exact absurd (by decide) other
    | parse _ _ _ isParse => obtain rfl | rfl | rfl := isParse <;> exact absurd (by decide) other
    | _ => exact absurd (by decide) other

/-- However a command ends, it keeps the invariant. -/
theorem Ending.serInv (e : Ending op s t) (h : s.SerInv) : t.SerInv := by
  cases e with
  | refused => exact h.of_stream (s.stream_respond _)
  | completed _ u r0 r1 r2 r3 effect => exact (effect.serInv h).of_stream (u.stream_respond _)
  | endOfData => exact h.of_stream (s.stream_respond _)
  | fault _ c info => exact h.of_stream (s.stream_takeFault op c info)

/-! ### While a session stays open -/

/-- The code table and the cache sizes of two states are the same. -/
def State.SameCoding (s t : State) : Prop :=
  t.ct = s.ct ∧ t.cache.nearSize = s.cache.nearSize ∧ t.cache.sameSize = s.cache.sameSize

theorem State.sameCoding_of_stream (same : t.stream = s.stream) : s.SameCoding t := by
  obtain ⟨-, -, -, -, -, -, -, ct, -, -, cache, -⟩ := State.stream_eq_iff.mp same
  exact ⟨ct, congrArg AddrCache.nearSize cache, congrArg AddrCache.sameSize cache⟩

/-- A command that completes while a session is open, and leaves it open, changes neither the code table nor the
cache sizes (rule R225 e). -/
theorem Effect.sameCoding (e : Effect op s u) (opened : s.serState ≠ .uninit) (stays : u.serState ≠ .uninit) :
    s.SameCoding u := by
  by_cases other : op ∉ streamOps
  case pos => exact State.sameCoding_of_stream (e.stream_eq other)
  case neg =>
    cases e with
    | reset | sessionReset | serFinish => exact absurd rfl stays
    | acConfig _ _ _ idle | acReset _ idle | acEncode _ _ idle | acDecode _ _ _ idle | ctDefault _ idle
    | ctWrite _ _ _ idle | ctValidate _ _ idle | serStart _ _ _ idle => exact absurd idle opened
    | accumulate _ _ inst size mode sp operand p cache which =>
      obtain ⟨-, -, -, -, rfl⟩ | ⟨-, -, -, -, rfl⟩ | ⟨-, -, -, a, -, rfl, -⟩ := which
      all_goals exact ⟨by simp, by simp, by simp⟩
    | _ => exact ⟨by simp, by simp [AddrCache.clear, AddrCache.cleared], by simp [AddrCache.clear, AddrCache.cleared]⟩

theorem Ending.sameCoding (e : Ending op s t) (opened : s.serState ≠ .uninit) (stays : t.serState ≠ .uninit) :
    s.SameCoding t := by
  cases e with
  | refused => exact State.sameCoding_of_stream (s.stream_respond _)
  | completed _ u r0 r1 r2 r3 effect => exact effect.sameCoding opened stays
  | endOfData => exact State.sameCoding_of_stream (s.stream_respond _)
  | fault _ c info => exact State.sameCoding_of_stream (s.stream_takeFault op c info)

end Effect

theorem State.SerInv.step {s t : State} (h : s.SerInv) (next : step s = .next t) : t.SerInv := by
  obtain ⟨-, rfl⟩ | ⟨rest, -, rfl⟩ | ⟨rest, r, -, rfl⟩ | ⟨w, rest, -, ending⟩ := step_next next
  · exact h
  · exact State.serInv_fullReset _
  · exact h.of_stream rfl
  · exact ending.serInv (h.of_stream rfl)

/-- Settles O58: there is a next state, and every ending of a command keeps the invariant. -/
theorem everyStepGoesOnAndKeepsTheSerializerInvariant :
    Obligations.EveryStepGoesOnAndKeepsTheSerializerInvariant := by
  intro s h
  obtain ⟨t, next⟩ := h.step_goesOn
  refine ⟨t, next, h.step next, fun opened stays => ?_⟩
  suffices same : s.SameCoding t from
    ⟨congrFun (State.ctEntry_congr same.1), same.2⟩
  obtain ⟨-, rfl⟩ | ⟨rest, -, rfl⟩ | ⟨rest, r, -, rfl⟩ | ⟨w, rest, -, ending⟩ := step_next next
  · exact State.sameCoding_of_stream rfl
  · exact absurd rfl stays
  · exact State.sameCoding_of_stream rfl
  · exact ending.sameCoding (s := { s with inputs := rest }) opened stays

end Sys2Proof.Machine

/-! ## The serializer's states (45_serializer.md rule R210)

The moves follow from what a command can complete with (O47); a command that the table does not list for a state
ends with the fault that its own rule names first. -/

namespace Sys2Proof.Machine

/-- The moves of the serializer's table: what a command of number `op` may do to SER_STATE (rule R210). -/
def SerState.Moves (op : Byte) (s t : SerState) : Prop :=
  t = s ∨ (s = .uninit ∧ op = 0x60 ∧ t = .ready) ∨
  (s = .ready ∧ (op = 0x62 ∨ op = 0x63 ∨ op = 0x64) ∧ t = .inWindow) ∨
  (s = .inWindow ∧ op = 0x66 ∧ t = .ready) ∨ (s = .ready ∧ op = 0x67 ∧ t = .uninit) ∨
  ((op = 0x01 ∨ op = 0x02) ∧ t = .uninit)

theorem SerState.moves_refl (op : Byte) (s : SerState) : SerState.Moves op s s := .inl rfl

section Moves

variable {op : Byte} {s u t : State}

/-- A command that completes moves the serializer as its table says. -/
theorem Effect.moves (e : Effect op s u) : SerState.Moves op s.serState u.serState := by
  cases e with
  | reset | sessionReset => exact .inr (.inr (.inr (.inr (.inr ⟨by decide, rfl⟩))))
  | serStart _ _ _ idle => exact .inr (.inl ⟨idle, rfl, rfl⟩)
  | accumulate _ _ inst size mode sp operand p cache which opened =>
    cases state : s.serState with
    | uninit => exact absurd state opened
    | ready => exact .inr (.inr (.inl ⟨rfl, which.imp And.left (.imp And.left And.left), rfl⟩))
    | inWindow => exact .inl rfl
  | serOutputEmpty _ opened | serOutput _ opened =>
    cases state : s.serState with
    | uninit => exact absurd state opened
    | ready => exact .inl rfl
    | inWindow => exact .inr (.inr (.inr (.inl ⟨rfl, rfl, rfl⟩)))
  | serFinish _ ready => exact .inr (.inr (.inr (.inr (.inl ⟨ready, rfl, rfl⟩))))
  | _ => exact .inl (by simp)

theorem Ending.moves (e : Ending op s t) : SerState.Moves op s.serState t.serState := by
  cases e with
  | refused => exact SerState.moves_refl op _
  | completed _ u r0 r1 r2 r3 effect => exact effect.moves
  | endOfData => exact SerState.moves_refl op _
  | fault _ c info => exact .inl (State.takeFault_serState s op c info)

end Moves

section Faults

variable {s t : State} {w : CommandWord} {rest : List Input} {op : Byte} {i : Instr}

/-- A word of a number in the map, its reserved field zero, is executed as the command of that number. -/
theorem step_of_spelled (hs : s.inputs = .command w :: rest) (rsv : rsvBits w = 0) (number : opBits w = op)
    (spelled : commandOf op.toNat (lane w 1) (lane w 2) (lane w 3) (lane w 4) = some i) :
    step s = exec i { s with inputs := rest } := by
  rw [step_of_command hs]
  exact stepCommand_of_decoded (decodeCommand_eq_ok_iff.mpr ⟨rsv, number ▸ spelled⟩) _

/-- Where the command ends with a first fault, that is recorded, and the serializer's state is left
(60_exceptions.md rule R264). -/
theorem recorded_of_takeFault {op' : Byte} {c : Cause} {info : Field} (hs : s.inputs = .command w :: rest)
    (running : s.failed = false) (next : step s = .next t) (rsv : rsvBits w = 0) (number : opBits w = op)
    (spelled : commandOf op.toNat (lane w 1) (lane w 2) (lane w 3) (lane w 4) = some i)
    (fault : exec i { s with inputs := rest } = .next ({ s with inputs := rest }.takeFault op' c info)) :
    t.failed = true ∧ t.errCause = some c ∧ t.serState = s.serState := by
  cases next.symm.trans ((step_of_spelled hs rsv number spelled).trans fault)
  rw [State.takeFault_first (s := { s with inputs := rest }) running]
  exact ⟨rfl, rfl, rfl⟩

end Faults

/-- Settles O47: the moves from every ending, the faults from each command's first check. -/
theorem serializerTransitions : Obligations.SerializerTransitions := by
  intro s t w rest hs running next
  refine ⟨?moves, fun rsv => ⟨fun unlisted => ?unlisted, fun ⟨number, pending⟩ => ?pending⟩⟩
  case moves =>
    obtain ⟨idle, -⟩ | ⟨_, reset, -⟩ | ⟨_, _, turn, -⟩ | ⟨v, rest', cmd, ending⟩ := step_next next
    · cases hs.symm.trans idle
    · cases hs.symm.trans reset
    · cases hs.symm.trans turn
    · cases hs.symm.trans cmd
      exact ending.moves
  case unlisted =>
    have present : { s with inputs := rest }.failed = false := running
    obtain ⟨number, opened⟩ | ⟨number, other⟩ |
      ⟨number | number | number | number | number | number, idle⟩ := unlisted
    · exact recorded_of_takeFault hs running next rsv number rfl (exec_serStart_of_open running opened)
    · exact recorded_of_takeFault hs running next rsv number rfl (exec_serWindow_of_notReady running other)
    all_goals
      have size {a : Field} : { s with inputs := rest }.sizeFault a = some (.badState, 0) :=
        State.sizeFault_of_uninit idle
    · exact recorded_of_takeFault hs running next rsv number rfl (exec_serAdd_of_sizeFault present size)
    · exact recorded_of_takeFault hs running next rsv number rfl (exec_serRun_of_sizeFault present size)
    · exact recorded_of_takeFault hs running next rsv number rfl (exec_serCopy_of_sizeFault present size)
    · exact recorded_of_takeFault hs running next rsv number rfl (exec_serChecksum_of_uninit running idle)
    · exact recorded_of_takeFault hs running next rsv number rfl (exec_serOutput_of_uninit running idle)
    · exact recorded_of_takeFault hs running next rsv number rfl (exec_serFinish_of_uninit running idle)
  case pending =>
    rw [← pending]
    exact recorded_of_takeFault hs running next rsv number rfl (exec_serFinish_of_inWindow running pending)

end Sys2Proof.Machine

/-! ## What reading a window depends on: the bytes it consumes (30_encoding.md rule R95)

A part of a group that was read is read again, with the same outcome, over any other window that has the same
bytes between the positions before and after it. It is said once for a part (`ReadPart.Carried`) and follows for
the group from its parts; so a window that grows, or whose last opcode byte is rewritten, still reads as before up
to there. -/

namespace Sys2Proof.Machine

/-! ### Varints and address fields -/

/-- A varint that parses depends on its own bytes alone. -/
theorem varintParseFrom_ok_congr {mem mem' : Nat → Byte} {limit limit' max left result p v q : Nat}
    (parsed : varintParseFrom mem limit max left result p = .ok v q) (room : q ≤ limit')
    (bytes : ∀ a, p ≤ a → a < q → mem' a = mem a) :
    varintParseFrom mem' limit' max left result p = .ok v q := by
  induction left generalizing result p with
  | zero => cases parsed
  | succ left ih =>
    obtain ⟨lt, le, -⟩ := varintParseFrom_ok parsed
    rw [varintParseFrom_of_lt (lt.trans_le le)] at parsed
    rw [varintParseFrom_of_lt (lt.trans_le room), bytes p le_rfl lt]
    split_ifs at parsed ⊢
    · exact parsed
    · exact ih parsed fun a le => bytes a (by omega)

theorem varintParse_ok_congr {width : VarWidth} {mem mem' : Nat → Byte} {cursor limit limit' v q : Nat}
    (parsed : varintParse width mem cursor limit = .ok v q) (room : q ≤ limit')
    (bytes : ∀ a, cursor ≤ a → a < q → mem' a = mem a) : varintParse width mem' cursor limit' = .ok v q :=
  varintParseFrom_ok_congr parsed room bytes

/-- An address field that decodes depends on its own bytes alone. -/
theorem AddrCache.decode_ok_congr {c : AddrCache} {mem mem' : Nat → Byte} {cursor limit limit' : Nat} {here : Int}
    {mode a q : Nat} (decoded : c.decode mem cursor limit here mode = .ok a q) (room : q ≤ limit')
    (bytes : ∀ i, cursor ≤ i → i < q → mem' i = mem i) : c.decode mem' cursor limit' here mode = .ok a q := by
  obtain ⟨-, le, le_last, moved, -⟩ := AddrCache.decode_ok decoded
  have pos : 0 < here := by
    by_contra neg
    rw [AddrCache.decode_of_badHere (.inl (not_lt.mp neg))] at decoded
    cases decoded
  by_cases same : 2 + c.nearSize ≤ mode
  · rw [AddrCache.decode_same pos le le_last same] at decoded ⊢
    split_ifs at decoded
    rw [if_neg (by omega), bytes cursor le_rfl moved]
    exact decoded
  · cases parsed : varintParse .w32 mem cursor limit with
    | endOfData =>
      rw [AddrCache.decode_of_endOfData pos le (not_le.mp same) parsed] at decoded
      cases decoded
    | error =>
      rw [AddrCache.decode_of_malformed pos le (not_le.mp same) parsed] at decoded
      cases decoded
    | ok v p =>
      rw [AddrCache.decode_of_parsed pos le (not_le.mp same) parsed] at decoded
      obtain ⟨-, rfl⟩ := AddrCache.decodeValue_ok decoded
      rw [AddrCache.decode_of_parsed pos le (not_le.mp same) (varintParse_ok_congr parsed room bytes)]
      exact decoded

/-! ### Positions, and the bytes between two of them -/

/-- `q` is not before `p` in any section. -/
structure ReadPos.Le (p q : ReadPos) : Prop where
  inst : p.instPos ≤ q.instPos
  data : p.dataPos ≤ q.dataPos
  addr : p.addrPos ≤ q.addrPos

theorem ReadPos.Le.refl (p : ReadPos) : p.Le p := ⟨le_rfl, le_rfl, le_rfl⟩

theorem ReadPos.Le.trans {p q r : ReadPos} (h : p.Le q) (h' : q.Le r) : p.Le r :=
  ⟨h.inst.trans h'.inst, h.data.trans h'.data, h.addr.trans h'.addr⟩

theorem ReadPos.Le.sinkPos {p q : ReadPos} (h : p.Le q) (s : State) (sp : Space) :
    s.sinkPos sp p ≤ s.sinkPos sp q := by
  unfold State.sinkPos
  split_ifs
  exacts [h.inst, h.data, h.addr]

section Sink

variable {s : State} {sp : Space} {p : ReadPos} {q : Nat}

theorem State.sinkPos_setSinkPos : s.sinkPos sp (s.setSinkPos sp p q) = q := by
  unfold State.sinkPos State.setSinkPos
  split_ifs <;> rfl

theorem State.le_setSinkPos (le : s.sinkPos sp p ≤ q) : p.Le (s.setSinkPos sp p q) := by
  unfold State.sinkPos at le
  unfold State.setSinkPos
  split_ifs at le ⊢
  exacts [⟨le, le_rfl, le_rfl⟩, ⟨le_rfl, le, le_rfl⟩, ⟨le_rfl, le_rfl, le⟩]

end Sink

/-- The windows of `s` and `t` have the same bytes between the positions `p` and `q`, and `t` has them all. -/
structure State.AgreesBetween (s t : State) (p q : ReadPos) : Prop where
  interleaved : t.interleaved = s.interleaved
  srcSize : t.winSrcSize = s.winSrcSize
  instRoom : q.instPos ≤ t.instLen
  inst : ∀ a, p.instPos ≤ a → a < q.instPos → t.readByte .inst a = s.readByte .inst a
  sinkRoom : ∀ sp, sp = .data ∨ sp = .addr → s.sinkPos sp q ≤ t.len (s.sink sp)
  sink : ∀ sp, sp = .data ∨ sp = .addr → ∀ a, s.sinkPos sp p ≤ a → a < s.sinkPos sp q →
    t.readByte (s.sink sp) a = s.readByte (s.sink sp) a

namespace State.AgreesBetween

variable {s t : State} {p q r : ReadPos}

theorem left (h : s.AgreesBetween t p r) (le : q.Le r) : s.AgreesBetween t p q where
  interleaved := h.interleaved
  srcSize := h.srcSize
  instRoom := le.inst.trans h.instRoom
  inst a above below := h.inst a above (below.trans_le le.inst)
  sinkRoom sp isSink := (le.sinkPos s sp).trans (h.sinkRoom sp isSink)
  sink sp isSink a above below := h.sink sp isSink a above (below.trans_le (le.sinkPos s sp))

theorem right (h : s.AgreesBetween t p r) (le : p.Le q) : s.AgreesBetween t q r :=
  { h with
    inst := fun a above => h.inst a (le.inst.trans above)
    sink := fun sp isSink a above => h.sink sp isSink a ((le.sinkPos s sp).trans above) }

theorem sink_eq (h : s.AgreesBetween t p q) (sp : Space) : t.sink sp = s.sink sp := by
  unfold State.sink
  rw [h.interleaved]

theorem sinkPos_eq (h : s.AgreesBetween t p q) (sp : Space) (x : ReadPos) : t.sinkPos sp x = s.sinkPos sp x := by
  unfold State.sinkPos
  rw [h.interleaved]

theorem setSinkPos_eq (h : s.AgreesBetween t p q) (sp : Space) (x : ReadPos) (a : Nat) :
    t.setSinkPos sp x a = s.setSinkPos sp x a := by
  unfold State.setSinkPos
  rw [h.interleaved]

end State.AgreesBetween

/-! ### A part that was read is read again -/

/-- A part of a group: it takes the reader from one position to another, or stops the group. -/
abbrev ReadPart (α : Type) := ReadPos → ReadStep (α × ReadPos)

/-- What the part `f` reads over `s`, the part `g` reads over any `t` with the bytes it consumed. -/
def ReadPart.Carried {α : Type} (s t : State) (f g : ReadPart α) : Prop :=
  ∀ p x q, f p = .ok (x, q) → p.Le q ∧ (s.AgreesBetween t p q → g p = .ok (x, q))

theorem ReadStep.bind_eq_ok {α β : Type} {r : ReadStep α} {f : α → ReadStep β} {b : β}
    (h : r.bind f = .ok b) : ∃ a, r = .ok a ∧ f a = .ok b := by
  cases r with
  | ok a => exact ⟨a, rfl, h⟩
  | stop w => cases h

section Carried

variable {s t : State}

theorem ReadPart.Carried.bind {α β : Type} {f g : ReadPart α} {f' g' : α → ReadPart β}
    (first : ReadPart.Carried s t f g) (second : ∀ x, ReadPart.Carried s t (f' x) (g' x)) :
    ReadPart.Carried s t (fun p => (f p).bind fun r => f' r.1 r.2) (fun p => (g p).bind fun r => g' r.1 r.2) := by
  intro p y r read
  obtain ⟨⟨x, q⟩, read1, read2⟩ := ReadStep.bind_eq_ok read
  obtain ⟨le1, again1⟩ := first p x q read1
  obtain ⟨le2, again2⟩ := second x q y r read2
  refine ⟨le1.trans le2, fun agrees => ?_⟩
  dsimp only
  rw [again1 (agrees.left le2)]
  exact again2 (agrees.right le1)

/-- A part that reads nothing, but may count what was produced. -/
theorem ReadPart.carried_ok {α : Type} (x : α) (n : Nat) :
    ReadPart.Carried s t (fun p => .ok (x, { p with produced := p.produced + n }))
      (fun p => .ok (x, { p with produced := p.produced + n })) := by
  intro p y q read
  cases read
  exact ⟨⟨le_rfl, le_rfl, le_rfl⟩, fun _ => rfl⟩

theorem ReadPart.carried_stop {α : Type} (w : ReadEnd) (g : ReadPart α) :
    ReadPart.Carried s t (fun _ => .stop w) g := nofun

theorem State.readSize_carried (h : Half) : ReadPart.Carried s t (s.readSize h) (t.readSize h) := by
  intro p n q read
  unfold State.readSize at read ⊢
  split_ifs at read ⊢
  · cases read
    exact ⟨.refl p, fun _ => rfl⟩
  · split at read
    next v e parsed =>
      cases read
      obtain ⟨moved, -⟩ := varintParse_ok parsed
      refine ⟨⟨moved.le, le_rfl, le_rfl⟩, fun agrees => ?_⟩
      rw [varintParse_ok_congr parsed agrees.instRoom agrees.inst]
    next => cases read
    next => cases read

theorem State.readData_carried (n : Nat) : ReadPart.Carried s t (s.readData n) (t.readData n) := by
  intro p bytes q read
  unfold State.readData at read
  dsimp only at read
  split_ifs at read
  cases read
  refine ⟨State.le_setSinkPos (Nat.le_add_right _ n), fun agrees => ?_⟩
  have room := agrees.sinkRoom .data (.inl rfl)
  have same := agrees.sink .data (.inl rfl)
  rw [State.sinkPos_setSinkPos] at room same
  rw [State.readData_of_room (by rwa [agrees.sinkPos_eq, agrees.sink_eq]), agrees.sinkPos_eq, agrees.sink_eq,
    agrees.setSinkPos_eq]
  have bytes_eq : t.readBytes (s.sink .data) (s.sinkPos .data p) n =
      s.readBytes (s.sink .data) (s.sinkPos .data p) n :=
    State.readBytes_congr fun i lt => same _ (Nat.le_add_right _ i) (Nat.add_lt_add_left lt _)
  rw [bytes_eq]

theorem State.readAddress_carried (mode : Nat) : ReadPart.Carried s t (s.readAddress mode) (t.readAddress mode) := by
  intro p addr q read
  unfold State.readAddress at read ⊢
  split at read
  next a e decoded =>
    cases read
    obtain ⟨-, -, -, moved, -⟩ := AddrCache.decode_ok decoded
    have le : p.Le (s.setSinkPos .addr p e) := State.le_setSinkPos moved.le
    refine ⟨⟨le.inst, le.data, le.addr⟩, fun agrees => ?_⟩
    have room : s.sinkPos .addr (s.setSinkPos .addr p e) ≤ t.len (s.sink .addr) :=
      agrees.sinkRoom .addr (.inr rfl)
    have same : ∀ a, s.sinkPos .addr p ≤ a → a < s.sinkPos .addr (s.setSinkPos .addr p e) →
        t.readByte (s.sink .addr) a = s.readByte (s.sink .addr) a := agrees.sink .addr (.inr rfl)
    rw [State.sinkPos_setSinkPos] at room same
    rw [agrees.sinkPos_eq, agrees.sink_eq, agrees.srcSize, AddrCache.decode_ok_congr decoded room same]
    dsimp only
    rw [agrees.setSinkPos_eq]
  next => cases read
  next => cases read

theorem State.readOperands_carried (h : Half) (size : Nat) :
    ReadPart.Carried s t (s.readOperands h size) (t.readOperands h size) := by
  have done (d : Delta) := ReadPart.carried_ok (s := s) (t := t) d 0
  unfold State.readOperands
  by_cases add : h.inst = instAdd
  · simp only [if_pos add]
    exact (State.readData_carried size).bind fun bytes => done (.add size bytes)
  by_cases run : h.inst = instRun
  · simp only [if_neg add, if_pos run]
    exact (State.readData_carried 1).bind fun bytes => done (.run size (bytes.headD 0))
  by_cases copy : h.inst = instCopy
  · simp only [if_neg add, if_neg run, if_pos copy]
    exact (State.readAddress_carried h.mode.toNat).bind fun a => done (.copy size h.mode.toNat a)
  · simp only [if_neg add, if_neg run, if_neg copy]
    exact ReadPart.carried_stop _ _

theorem State.readHalf_carried (h : Half) : ReadPart.Carried s t (s.readHalf h) (t.readHalf h) := by
  unfold State.readHalf
  by_cases absent : h.inst = instNoop
  · simp only [if_pos absent]
    exact ReadPart.carried_ok [] 0
  · simp only [if_neg absent]
    exact (State.readSize_carried h).bind fun size =>
      (State.readOperands_carried h size).bind fun d => ReadPart.carried_ok [d] size

theorem State.readEntry_carried (e : CtEntry) : ReadPart.Carried s t (s.readEntry e) (t.readEntry e) :=
  (State.readHalf_carried e.first).bind fun d1 =>
    (State.readHalf_carried e.second).bind fun d2 => ReadPart.carried_ok (d1 ++ d2) 0

end Carried

end Sys2Proof.Machine

/-! ## The window decodes to what was given (45_serializer.md rule R225 d)

Every turn up to the end of a window that decodes reads a group: a turn that reads none is repeated for ever. So
the window is a chain of groups. After an instruction was accumulated the groups are those of before, the last one
with a second half where the plan merged, and one more where it did not; either way the half that is new reads
back as the instruction (O48). -/

namespace Sys2Proof.Machine

/-! ### One turn -/

/-- The position of a reader. -/
def Reader.pos (r : Reader) : ReadPos :=
  { instPos := r.instPos, dataPos := r.dataPos, addrPos := r.addrPos, produced := r.produced, cache := r.cache }

/-- The group at a reader's position: its opcode byte's entry, and the outcome of reading it. -/
def State.group (s : State) (r : Reader) : ReadStep (List Delta × ReadPos) :=
  s.readEntry (s.ctEntry (s.readByte .inst r.instPos).toNat) r.afterOpcode

/-- A turn that reads a group takes the reader from `r` to `r'`. -/
def State.Reads (s : State) (r r' : Reader) : Prop :=
  r.instPos < s.instLen ∧ ∃ ds p, s.group r = .ok (ds, p) ∧ r' = r.advance ds p

section Turn

variable {s : State} {r r' : Reader}

theorem State.turn_of_ok {ds : List Delta} {p : ReadPos} (lt : r.instPos < s.instLen)
    (read : s.group r = .ok (ds, p)) : s.turn r = r.advance ds p := by
  change { s with reader := r }.readEntry ({ s with reader := r }.ctEntry _) r.afterOpcode = _ at read
  rw [State.turn, if_pos lt, State.readerAfter, read]

theorem State.turn_of_stop {w : ReadEnd} (lt : r.instPos < s.instLen) (read : s.group r = .stop w) :
    s.turn r = { r with last := w } := by
  change { s with reader := r }.readEntry ({ s with reader := r }.ctEntry _) r.afterOpcode = _ at read
  rw [State.turn, if_pos lt, State.readerAfter, read]

theorem State.turn_of_le (le : s.instLen ≤ r.instPos) : s.turn r = r := if_neg (not_lt.mpr le)

theorem State.Reads.turn_eq (h : s.Reads r r') : s.turn r = r' := by
  obtain ⟨lt, ds, p, read, rfl⟩ := h
  exact State.turn_of_ok lt read

/-- A turn reads a group, or stays where it is and so do all after it. -/
theorem State.reads_or_idle (s : State) (r : Reader) :
    s.Reads r (s.turn r) ∨ (s.turn r).instPos = r.instPos ∧ s.turn (s.turn r) = s.turn r := by
  rcases lt_or_ge r.instPos s.instLen with lt | le
  · cases read : s.group r with
    | ok x => exact .inl ⟨lt, x.1, x.2, read, State.turn_of_ok lt read⟩
    | stop w =>
      have stays := State.turn_of_stop lt read
      have again : s.turn { r with last := w } = { r with last := w } := State.turn_of_stop lt read
      rw [stays]
      exact .inr ⟨rfl, again⟩
  · refine .inr ?_
    rw [State.turn_of_le le]
    exact ⟨rfl, State.turn_of_le le⟩

/-- A turn that reads a group moves the reader on. -/
theorem State.Reads.pos_le (h : s.Reads r r') : r.afterOpcode.Le r'.pos := by
  obtain ⟨-, ds, p, read, rfl⟩ := h
  exact (State.readEntry_carried (t := s) _ _ _ _ read).1

theorem State.Reads.instPos_lt (h : s.Reads r r') : r.instPos < r'.instPos := h.pos_le.inst

end Turn

/-! ### The window as a chain of groups -/

section Turns

variable {s : State} {ds : List Delta} {j k n : Nat}

/-- A turn that reads nothing is the last that changes a position. -/
theorem State.turns_instPos_of_idle (idle : ¬ s.Reads (s.turns j) (s.turns (j + 1))) (le : j ≤ k) :
    (s.turns k).instPos = (s.turns j).instPos := by
  obtain ⟨stays, again⟩ := (s.reads_or_idle (s.turns j)).resolve_left idle
  have settled (i : Nat) : s.turns (j + 1 + i) = s.turns (j + 1) := by
    induction i with
    | zero => rfl
    | succ i ih => exact (congrArg s.turn ih).trans again
  obtain rfl | lt := le.eq_or_lt
  · rfl
  · obtain ⟨i, rfl⟩ := Nat.exists_eq_add_of_le lt
    exact (congrArg Reader.instPos (settled i)).trans stays

theorem State.turns_of_end (ended : s.instLen ≤ (s.turns j).instPos) (le : j ≤ k) : s.turns k = s.turns j := by
  induction k, le using Nat.le_induction with
  | base => rfl
  | succ k _ ih => exact (congrArg s.turn ih).trans (State.turn_of_le ended)

/-- A reader that comes to the end of INST has read a group in every turn until then. -/
theorem State.exists_chain (ended : (s.turns n).instPos = s.instLen) :
    ∃ k ≤ n, (∀ j < k, s.Reads (s.turns j) (s.turns (j + 1))) ∧ s.turns n = s.turns k ∧
      (s.turns k).instPos = s.instLen := by
  classical
  have exists_end : ∃ k, (s.turns k).instPos = s.instLen := ⟨n, ended⟩
  refine ⟨Nat.find exists_end, Nat.find_min' exists_end ended, fun j lt => ?_, ?_, Nat.find_spec exists_end⟩
  · by_contra idle
    have le : j ≤ n := (lt.trans_le (Nat.find_min' exists_end ended)).le
    exact Nat.find_min exists_end lt ((State.turns_instPos_of_idle idle le).symm.trans ended)
  · exact State.turns_of_end (Nat.find_spec exists_end).ge (Nat.find_min' exists_end ended)

/-- The position `p` is at the end of the window of `s`: of INST at `i`, of the sections that are read, with the
window's cache and target length. -/
structure State.AtEnd (s : State) (i : Nat) (p : ReadPos) : Prop where
  inst : p.instPos = i
  sections : s.interleaved = false → p.dataPos = s.dataLen ∧ p.addrPos = s.addrLen
  cache : p.cache = s.cache
  produced : p.produced = s.winTargetLen

/-- The window of `s` is a chain of `n` groups, which stand for `ds`; the opcode that may still be rewritten is
that of the last one. -/
structure State.Chain (s : State) (ds : List Delta) (n : Nat) : Prop where
  reads : ∀ j < n, s.Reads (s.turns j) (s.turns (j + 1))
  deltas : (s.turns n).deltas = ds
  atEnd : s.AtEnd s.instLen (s.turns n).pos
  last : s.lastOpcodeIndex = -1 ∨ ∃ m, n = m + 1 ∧ ((s.turns m).instPos : Int) = s.lastOpcodeIndex

theorem State.Chain.windowReads (h : s.Chain ds n) : s.WindowReads ds :=
  ⟨n, h.deltas, h.atEnd.inst, h.atEnd.sections, h.atEnd.cache, h.atEnd.produced, h.last⟩

theorem State.exists_chain_of_windowReads (h : s.WindowReads ds) (below : s.lastOpcodeIndex < s.instLen) :
    ∃ n, s.Chain ds n := by
  obtain ⟨n, deltas, inst, sections, cache, produced, last⟩ := h
  obtain ⟨k, le, reads, same, ended⟩ := State.exists_chain inst
  rw [same] at deltas inst sections cache produced
  refine ⟨k, reads, deltas, ⟨inst, sections, cache, produced⟩, last.imp_right fun ⟨m, succ, pos⟩ => ⟨m, ?_, pos⟩⟩
  have lt : m < k := by
    by_contra past
    rw [State.turns_of_end ended.ge (not_lt.mp past)] at pos
    omega
  omega

/-- The positions of a chain rise from turn to turn. -/
theorem State.Chain.pos_le (h : s.Chain ds n) (le : j ≤ k) (inside : k ≤ n) :
    (s.turns j).pos.Le (s.turns k).pos := by
  induction k, le using Nat.le_induction with
  | base => exact .refl _
  | succ k _ ih =>
    have read := (h.reads k inside).pos_le
    exact (ih (by omega)).trans ⟨(Nat.le_succ _).trans read.inst, read.data, read.addr⟩

end Turns

/-! ### The window after an accumulation -/

section Accumulated

variable {s t : State} {p : Plan} {sp : Space} {operand : List Byte} {size : Nat}

theorem State.Accumulated.interleaved_eq (a : s.Accumulated t p sp operand size) : t.interleaved = s.interleaved :=
  (congrArg State.interleaved a.kept :)

theorem State.Accumulated.winSrcSize_eq (a : s.Accumulated t p sp operand size) : t.winSrcSize = s.winSrcSize :=
  (congrArg State.winSrcSize a.kept :)

theorem State.Accumulated.ctEntry_eq (a : s.Accumulated t p sp operand size) : t.ctEntry = s.ctEntry :=
  State.ctEntry_congr (congrArg State.ct a.kept :)

theorem State.Accumulated.sink_eq (a : s.Accumulated t p sp operand size) (sp' : Space) :
    t.sink sp' = s.sink sp' := by
  unfold State.sink
  rw [a.interleaved_eq]

/-- A byte of INST below its old end stays, but for an opcode byte that the plan rewrites. -/
theorem State.Accumulated.readByte_inst (a : s.Accumulated t p sp operand size) (isSink : sp = .data ∨ sp = .addr)
    {i : Nat} (lt : i < s.instLen) (other : p.rewrite ≠ none → i ≠ s.lastOpcodeIndex.toNat) :
    t.readByte .inst i = s.readByte .inst i := by
  refine a.kept_bytes .inst i ?_
  rintro (⟨-, rewrites, at_last⟩ | ⟨-, past, -⟩ | ⟨sink, past, -⟩)
  · exact other (Option.isSome_iff_ne_none.mp rewrites) at_last
  · omega
  · have before := (State.inst_before_operand isSink (s := s) (p := p) (a := i) (by omega)).resolve_left (not_not.mpr sink)
    omega

/-- A byte of another section below its old end stays. -/
theorem State.Accumulated.readByte_section (a : s.Accumulated t p sp operand size) {sp' : Space}
    (isSection : sp' = .data ∨ sp' = .addr) {i : Nat} (lt : i < s.len sp') :
    t.readByte sp' i = s.readByte sp' i := by
  have other : sp' ≠ .inst := by obtain rfl | rfl := isSection <;> decide
  refine a.kept_bytes sp' i ?_
  rintro (⟨inst, -⟩ | ⟨inst, -⟩ | ⟨sink, past, -⟩)
  · exact other inst
  · exact other inst
  · have standard : s.interleaved = false := by
      by_contra merged
      rw [State.sink_of_interleaved (by simpa using merged)] at sink
      exact other sink
    rw [State.sink_of_standard standard] at sink
    rw [State.operandStart_of_standard standard, ← sink] at past
    omega

theorem State.Accumulated.len_le (a : s.Accumulated t p sp operand size) {sp' : Space}
    (isSection : sp' = .data ∨ sp' = .addr) : s.len sp' ≤ t.len sp' := by
  obtain rfl | rfl := isSection
  · exact (Nat.le_add_right _ _).trans_eq a.data_len.symm
  · exact (Nat.le_add_right _ _).trans_eq a.addr_len.symm

theorem State.Accumulated.instLen_le (a : s.Accumulated t p sp operand size) :
    s.instLen + p.bytes.length ≤ t.instLen := (Nat.le_add_right _ _).trans_eq a.inst_len.symm

/-- Between two positions of the old window that do not span a rewritten opcode byte, the windows agree. -/
theorem State.Accumulated.agreesBetween (a : s.Accumulated t p sp operand size) (isSink : sp = .data ∨ sp = .addr)
    {x y : ReadPos} (inst : y.instPos ≤ s.instLen)
    (sections : s.interleaved = false → y.dataPos ≤ s.dataLen ∧ y.addrPos ≤ s.addrLen)
    (apart : p.rewrite ≠ none → y.instPos ≤ s.lastOpcodeIndex.toNat ∨ s.lastOpcodeIndex.toNat < x.instPos) :
    s.AgreesBetween t x y := by
  have instRoom : y.instPos ≤ t.instLen := inst.trans ((Nat.le_add_right _ _).trans a.instLen_le)
  have instBytes : ∀ i, x.instPos ≤ i → i < y.instPos → t.readByte .inst i = s.readByte .inst i :=
    fun i above below => a.readByte_inst isSink (below.trans_le inst) fun rewrites => by
      have := apart rewrites
      omega
  refine ⟨a.interleaved_eq, a.winSrcSize_eq, instRoom, instBytes, fun sp' isSection => ?_,
    fun sp' isSection i above below => ?_⟩
  all_goals cases format : s.interleaved
  case refine_1.true =>
    rw [State.sink_of_interleaved format, State.sinkPos, if_pos format]
    exact instRoom
  case refine_2.true =>
    rw [State.sinkPos, if_pos format] at above below
    rw [State.sink_of_interleaved format]
    exact instBytes i above below
  all_goals
    obtain ⟨data, addr⟩ := sections format
    have le : s.sinkPos sp' y ≤ s.len sp' := by
      obtain rfl | rfl := isSection <;> simpa [State.sinkPos, format, State.len]
    rw [State.sink_of_standard format]
  case refine_1.false => exact le.trans (a.len_le isSection)
  case refine_2.false => exact a.readByte_section isSection (below.trans_le le)

end Accumulated

/-! ### The new half -/

section NewHalf

variable {s t : State} {p : Plan} {sp : Space} {operand : List Byte} {size mode k : Nat} {inst : Byte}
  {x : ReadPos} {bytes : List Byte}

/-- The size of an instruction is read back however it is spelled (rules R95, R215). -/
theorem State.readSize_spelled (spelled : SizeSpelled size k bytes) (pos : 1 ≤ size) (le : size ≤ max32)
    (stored : BytesAt (t.readByte .inst) x.instPos bytes) (room : x.instPos + bytes.length ≤ t.instLen) :
    t.readSize (sizedHalf inst k mode) x = .ok (size, { x with instPos := x.instPos + bytes.length }) := by
  obtain ⟨isByte, rfl, rfl⟩ | ⟨rfl, rfl⟩ := spelled
  · exact State.readSize_of_sized rfl pos (Nat.lt_succ_of_le isByte)
  · rw [length_varintEncode] at room ⊢
    have parsed := varintParse_encoded (width := .w32) (limit := t.instLen) le
      fun i lt => stored i ((length_varintEncode size).symm ▸ lt)
    rw [if_pos room] at parsed
    exact State.readSize_of_unsized rfl parsed

/-- The operand of an accumulated instruction reads back as the delta `d`: at the place where it was put, with
the cache and the target length of before, and leaving the cache of after. -/
def State.OperandReads (s t : State) (p : Plan) (sp : Space) (inst : Byte) (size mode n : Nat) (d : Delta) :
    Prop :=
  ∀ (k : Nat) (y : ReadPos), s.sinkPos sp y = s.operandStart sp p → y.cache = s.cache →
    y.produced = s.winTargetLen →
    t.readOperands (sizedHalf inst k mode) size y =
      .ok (d, { s.setSinkPos sp y (s.operandStart sp p + n) with cache := t.cache })

/-- The sink of the operand ends where the operand does. -/
theorem State.Accumulated.len_sink (a : s.Accumulated t p sp operand size) (isSink : sp = .data ∨ sp = .addr) :
    t.len (t.sink sp) = s.operandStart sp p + operand.length := by
  rw [a.sink_eq]
  cases format : s.interleaved with
  | true =>
    rw [State.sink_of_interleaved format, State.operandStart_of_interleaved format]
    exact a.inst_len.trans (by rw [if_pos format])
  | false =>
    rw [State.sink_of_standard format, State.operandStart_of_standard format]
    obtain rfl | rfl := isSink
    · exact a.data_len.trans (by rw [if_pos ⟨rfl, format⟩]; rfl)
    · exact a.addr_len.trans (by rw [if_pos ⟨rfl, format⟩]; rfl)

theorem State.Accumulated.sinkPos_eq (a : s.Accumulated t p sp operand size) (sp' : Space) (y : ReadPos) :
    t.sinkPos sp' y = s.sinkPos sp' y := by
  unfold State.sinkPos
  rw [a.interleaved_eq]

theorem State.Accumulated.setSinkPos_eq (a : s.Accumulated t p sp operand size) (sp' : Space) (y : ReadPos)
    (i : Nat) : t.setSinkPos sp' y i = s.setSinkPos sp' y i := by
  unfold State.setSinkPos
  rw [a.interleaved_eq]

/-- Literal bytes are read back (rule R103). -/
theorem State.Accumulated.readData_eq (a : s.Accumulated t p .data operand size) {y : ReadPos}
    (at_start : s.sinkPos .data y = s.operandStart .data p) :
    t.readData operand.length y =
      .ok (operand, s.setSinkPos .data y (s.operandStart .data p + operand.length)) := by
  have room : t.sinkPos .data y + operand.length ≤ t.len (t.sink .data) := by
    rw [a.len_sink (.inl rfl), a.sinkPos_eq, at_start]
  rw [State.readData_of_room room, a.sinkPos_eq, at_start, a.setSinkPos_eq, a.sink_eq, a.operands]

theorem State.setSinkPos_cache (s : State) (sp : Space) (y : ReadPos) (i : Nat) :
    (s.setSinkPos sp y i).cache = y.cache := by
  unfold State.setSinkPos
  split_ifs <;> rfl

theorem State.Accumulated.add_reads (a : s.Accumulated t p .data operand size) (length : operand.length = size)
    (cache : t.cache = s.cache) :
    s.OperandReads t p .data instAdd size 0 operand.length (.add size operand) := by
  intro k y at_start same _
  have read := a.readData_eq at_start
  rw [State.readOperands_add rfl, ← length, read, cache, ← same, ← s.setSinkPos_cache .data y]
  rfl

theorem State.Accumulated.run_reads {v : Byte} (a : s.Accumulated t p .data [v] size) (cache : t.cache = s.cache) :
    s.OperandReads t p .data instRun size 0 1 (.run size v) := by
  intro k y at_start same _
  have read := a.readData_eq at_start
  rw [List.length_singleton] at read
  rw [State.readOperands_run rfl, read, cache, ← same, ← s.setSinkPos_cache .data y]
  rfl

/-- The address chosen for a COPY is read back from its field (rules R177, R179). -/
theorem State.Accumulated.copy_reads {addr : Nat} (a : s.Accumulated t p .addr (s.copyField addr) size)
    (below : addr < s.hereAddress) (here_le : s.hereAddress ≤ max32) (mode_le : (s.copyChoice addr).mode ≤ 255)
    (cache : t.cache = s.cache.update addr) :
    s.OperandReads t p .addr instCopy size (s.copyChoice addr).mode (s.copyField addr).length
      (.copy size (s.copyChoice addr).mode addr) := by
  intro k y at_start same produced
  have stored : BytesAt (t.readByte (t.sink .addr)) (s.operandStart .addr p) (s.copyField addr) := by
    rw [a.sink_eq]
    exact State.bytesAt_of_readBytes a.operands
  have decoded : y.cache.decode (t.readByte (t.sink .addr)) (t.sinkPos .addr y) (t.len (t.sink .addr))
      ((t.winSrcSize + y.produced : Nat) : Int) (s.copyChoice addr).mode =
      .ok addr (s.operandStart .addr p + (s.copyField addr).length) := by
    rw [a.sinkPos_eq, at_start, a.winSrcSize_eq, produced, same]
    exact AddrCache.decode_candidate (s.cache.choose_candidate addr s.hereAddress) below here_le stored
      (a.len_sink (.inr rfl)).ge
  rw [State.readOperands_copy rfl (toNat_byte (Nat.lt_succ_of_le mode_le)), State.readAddress, decoded, cache,
    ← same]
  dsimp only
  rw [a.setSinkPos_eq]
  rfl

/-- From the end of the plan's bytes, the operand leads to the end of the new window. -/
theorem State.Accumulated.setSinkPos_atEnd (a : s.Accumulated t p sp operand size) (isSink : sp = .data ∨ sp = .addr)
    (start : s.AtEnd (s.instLen + p.bytes.length) x) :
    let y := s.setSinkPos sp x (s.operandStart sp p + operand.length)
    y.instPos = t.instLen ∧ (t.interleaved = false → y.dataPos = t.dataLen ∧ y.addrPos = t.addrLen) ∧
      y.produced = s.winTargetLen := by
  obtain ⟨inst, sections, -, produced⟩ := start
  have inst_len := a.inst_len
  have data_len := a.data_len
  have addr_len := a.addr_len
  rw [a.interleaved_eq]
  cases format : s.interleaved with
  | true =>
    rw [State.setSinkPos, if_pos format, State.operandStart_of_interleaved format]
    exact ⟨by simpa [format] using inst_len.symm, nofun, produced⟩
  | false =>
    obtain ⟨data, addr⟩ := sections format
    rw [State.setSinkPos, if_neg (by simp [format]), State.operandStart_of_standard format]
    obtain rfl | rfl := isSink <;> simp_all [State.len]

/-- The half of the instruction, read where the plan put its size, ends at the end of the new window. -/
theorem State.Accumulated.readHalf_new (a : s.Accumulated t p sp operand size) (isSink : sp = .data ∨ sp = .addr)
    (present : inst ≠ instNoop) {d : Delta} (reads : s.OperandReads t p sp inst size mode operand.length d)
    (spelled : SizeSpelled size k bytes) (pos : 1 ≤ size) (le : size ≤ max32) {i : Nat} (start : s.AtEnd i x)
    (stored : BytesAt (t.readByte .inst) i bytes) (planned : i + bytes.length = s.instLen + p.bytes.length) :
    ∃ y, t.readHalf (sizedHalf inst k mode) x = .ok ([d], y) ∧ t.AtEnd t.instLen y := by
  obtain ⟨rfl, sections, cache, produced⟩ := start
  have room : x.instPos + bytes.length ≤ t.instLen := planned.trans_le a.instLen_le
  have sized := State.readSize_spelled (t := t) (x := x) (inst := inst) (mode := mode) spelled pos le stored room
  have at_start : s.sinkPos sp { x with instPos := x.instPos + bytes.length } = s.operandStart sp p := by
    cases format : s.interleaved with
    | true => rw [State.sinkPos, if_pos format, State.operandStart_of_interleaved format, planned]
    | false =>
      obtain ⟨data, addr⟩ := sections format
      rw [State.operandStart_of_standard format]
      obtain rfl | rfl := isSink <;> simpa [State.sinkPos, format, State.len]
  have operands := reads k { x with instPos := x.instPos + bytes.length } at_start cache produced
  refine ⟨_, State.readHalf_of_operands present sized operands, ?_⟩
  obtain ⟨at_inst, at_sections, at_target⟩ := a.setSinkPos_atEnd isSink
    (x := { x with instPos := x.instPos + bytes.length }) ⟨planned, sections, cache, produced⟩
  exact ⟨at_inst, at_sections, rfl, (congrArg (· + size) at_target).trans a.target_len.symm⟩

end NewHalf

/-! ### The groups of before -/

section Groups

variable {s t : State} {p : Plan} {sp : Space} {operand : List Byte} {size n j m : Nat} {r r' : Reader}
  {ds : List Delta}

/-- A group of the old window is read again, where the plan does not rewrite its opcode byte. -/
theorem State.Accumulated.reads (a : s.Accumulated t p sp operand size) (isSink : sp = .data ∨ sp = .addr)
    (h : s.Reads r r') (inst : r'.instPos ≤ s.instLen)
    (sections : s.interleaved = false → r'.dataPos ≤ s.dataLen ∧ r'.addrPos ≤ s.addrLen)
    (before : p.rewrite ≠ none → r'.instPos ≤ s.lastOpcodeIndex.toNat) : t.Reads r r' := by
  have moved := h.instPos_lt
  obtain ⟨lt, ds, q, read, rfl⟩ := h
  have opcode : t.readByte .inst r.instPos = s.readByte .inst r.instPos :=
    a.readByte_inst isSink lt fun rewrites => (moved.trans_le (before rewrites)).ne
  refine ⟨moved.trans_le (inst.trans ((Nat.le_add_right _ _).trans a.instLen_le)), ds, q, ?_, rfl⟩
  rw [State.group, opcode, a.ctEntry_eq]
  exact (State.readEntry_carried _ _ _ _ read).2
    (a.agreesBetween isSink inst sections fun rewrites => .inl (before rewrites))

/-- So the turns over the new window are those over the old one, up to the group that the plan rewrites. -/
theorem State.Accumulated.turns_eq (a : s.Accumulated t p sp operand size) (isSink : sp = .data ∨ sp = .addr)
    (near : t.cache.nearSize = s.cache.nearSize) (same : t.cache.sameSize = s.cache.sameSize)
    (chain : s.Chain ds n) (inside : m ≤ n)
    (before : p.rewrite ≠ none → (s.turns m).instPos ≤ s.lastOpcodeIndex.toNat) (le : j ≤ m) :
    t.turns j = s.turns j := by
  induction j with
  | zero => exact congrArg₂ Reader.atStart near same
  | succ j ih =>
    have to_m := chain.pos_le le inside
    have to_end := to_m.trans (chain.pos_le inside le_rfl)
    have again := a.reads isSink (chain.reads j (le.trans inside)) (to_end.inst.trans_eq chain.atEnd.inst)
      (fun standard => ⟨to_end.data.trans_eq (chain.atEnd.sections standard).1,
        to_end.addr.trans_eq (chain.atEnd.sections standard).2⟩)
      fun rewrites => to_m.inst.trans (before rewrites)
    exact (congrArg t.turn (ih (Nat.le_of_succ_le le))).trans again.turn_eq

end Groups

/-! ### The last group of the new window -/

section LastGroup

variable {s t : State} {e : CtEntry} {h : Half} {p : ReadPos} {ds : List Delta}

/-- The group of an entry that stands for a single instruction is its half that is present (rules R95, R190). -/
theorem State.readEntry_of_isSingle (single : e.IsSingle h) : s.readEntry e p = s.readHalf h p := by
  obtain ⟨-, ⟨rfl, absent⟩ | ⟨rfl, absent⟩⟩ := single
  · have empty (q : ReadPos) : s.readHalf e.second q = .ok ([], q) := if_pos absent
    rw [State.readEntry]
    cases s.readHalf e.first p with
    | stop w => rfl
    | ok x =>
      change (s.readHalf e.second x.2).bind _ = _
      rw [empty]
      exact congrArg (fun l => ReadStep.ok (l, x.2)) (List.append_nil x.1)
  · have empty : s.readHalf e.first p = .ok ([], p) := if_pos absent
    rw [State.readEntry, empty]
    change (s.readHalf e.second p).bind _ = _
    cases s.readHalf e.second p with
    | stop w => rfl
    | ok x => rfl

/-- A window reads as the deltas of a reader that came to its end with a group, the last rewritable one if any. -/
theorem State.windowReads_of_last {n : Nat} {q : ReadPos}
    (read : t.group (t.turns n) = .ok (ds, q)) (ended : t.AtEnd t.instLen q)
    (moved : (t.turns n).instPos < t.instLen)
    (last : t.lastOpcodeIndex = -1 ∨ ((t.turns n).instPos : Int) = t.lastOpcodeIndex) :
    t.WindowReads ((t.turns n).deltas ++ ds) := by
  have turn : t.turns (n + 1) = (t.turns n).advance ds q := State.Reads.turn_eq ⟨moved, ds, q, read, rfl⟩
  refine ⟨n + 1, ?_⟩
  rw [turn]
  exact ⟨rfl, ended.inst, ended.sections, ended.cache, ended.produced, last.imp_right fun pos => ⟨n, rfl, pos⟩⟩

end LastGroup

section Given

variable {s t : State} {p : Plan} {sp : Space} {operand : List Byte} {size mode k n : Nat} {inst : Byte}
  {bytes : List Byte} {ds : List Delta} {d : Delta}
  (a : s.Accumulated t p sp operand size) (isSink : sp = .data ∨ sp = .addr)
  (near : t.cache.nearSize = s.cache.nearSize) (same : t.cache.sameSize = s.cache.sameSize)
  (present : inst ≠ instNoop) (reads : s.OperandReads t p sp inst size mode operand.length d)
  (pos : 1 ≤ size) (le : size ≤ max32)

include a isSink near same present reads pos le

/-- Where the plan appends a single opcode, the window reads with one more group. -/
theorem State.Accumulated.windowReads_single (chain : s.Chain ds n) (spelled : SizeSpelled size k bytes)
    (found : lookupFirst s.ctEntry (sizedHalf inst k mode) < 256)
    (appends : p = ⟨none, byte (lookupFirst s.ctEntry (sizedHalf inst k mode)) :: bytes, s.instLen⟩) :
    t.WindowReads (ds ++ [d]) := by
  subst appends
  have turns : t.turns n = s.turns n :=
    a.turns_eq isSink near same chain le_rfl (fun rewrites => absurd rfl rewrites) le_rfl
  have at_end : (s.turns n).instPos = s.instLen := chain.atEnd.inst
  obtain ⟨opcode, stored⟩ := BytesAt.of_append (front := [_]) (State.bytesAt_of_readBytes a.planned)
  replace opcode : (t.readByte .inst s.instLen).toNat = lookupFirst s.ctEntry (sizedHalf inst k mode) :=
    (congrArg BitVec.toNat (Option.some.inj (opcode 0 Nat.one_pos)).symm).trans (toNat_byte found)
  have single := (lookupFirst_isLowest s.ctEntry (sizedHalf inst k mode)).holds found
  have start : s.AtEnd (s.instLen + 1) (s.turns n).afterOpcode :=
    ⟨congrArg (· + 1) at_end, chain.atEnd.sections, chain.atEnd.cache, chain.atEnd.produced⟩
  obtain ⟨y, read, ended⟩ := a.readHalf_new isSink present reads spelled pos le start stored (by
    rw [List.length_cons, Nat.add_assoc, Nat.add_comm 1])
  have room : s.instLen + (bytes.length + 1) ≤ t.instLen := a.instLen_le
  rw [← chain.deltas, ← turns]
  refine State.windowReads_of_last (q := y) ?_ ended ?_ (.inr ?_)
  · rw [turns, State.group, at_end, opcode, a.ctEntry_eq, State.readEntry_of_isSingle single, read]
  · rw [turns, at_end]
    omega
  · rw [turns, at_end, a.last_opcode]

/-- Where the plan rewrites the last opcode byte, the window reads with a second half in the last group. -/
theorem State.Accumulated.windowReads_merged (chain : s.Chain ds n) (spelled : SizeSpelled size k bytes)
    (last : 0 ≤ s.lastOpcodeIndex) (found : s.mergedOpcode (sizedHalf inst k mode) < 256)
    (rewrites : p = ⟨some (byte (s.mergedOpcode (sizedHalf inst k mode))), bytes, -1⟩) :
    t.WindowReads (ds ++ [d]) := by
  subst rewrites
  obtain ⟨m, rfl, at_last⟩ := chain.last.resolve_left (by omega)
  have at_opcode : (s.turns m).instPos = s.lastOpcodeIndex.toNat := by omega
  have turns : t.turns m = s.turns m :=
    a.turns_eq isSink near same chain (Nat.le_succ m) (fun _ => at_opcode.le) le_rfl
  have opcode : (t.readByte .inst (s.turns m).instPos).toNat = s.mergedOpcode (sizedHalf inst k mode) := by
    rw [at_opcode, a.rewritten _ rfl, toNat_byte found]
  obtain ⟨lt, ds1, q, read, next⟩ := chain.reads m (Nat.lt_succ_self m)
  obtain ⟨-, -, second, first⟩ := (lookupSecond_isLowest _ _ _).holds found
  have single := (lookupFirst_isLowest s.ctEntry _).holds (first.trans_lt (BitVec.isLt _))
  rw [State.group, at_opcode, ← first, State.readEntry_of_isSingle single] at read
  have q_end : s.AtEnd s.instLen q := by
    have at_end := chain.atEnd
    rwa [next] at at_end
  obtain ⟨le_q, again⟩ := State.readHalf_carried (t := t) _ _ _ _ read
  have read1 := again (a.agreesBetween isSink q_end.inst.le
    (fun standard => ⟨(q_end.sections standard).1.le, (q_end.sections standard).2.le⟩)
    fun _ => .inr (at_opcode ▸ Nat.lt_succ_self _))
  obtain ⟨y, read2, ended⟩ := a.readHalf_new isSink present reads spelled pos le q_end
    (State.bytesAt_of_readBytes a.planned) rfl
  have deltas : ds ++ [d] = (t.turns m).deltas ++ (ds1 ++ [d]) := by
    rw [← chain.deltas, next, turns, ← List.append_assoc]
    rfl
  rw [deltas]
  refine State.windowReads_of_last (q := y) ?_ ended ?_ (.inl a.last_opcode)
  · rw [turns, State.group, opcode, a.ctEntry_eq]
    exact State.readEntry_pair read1 (second ▸ read2)
  · rw [turns]
    exact lt.trans_le ((Nat.le_add_right _ _).trans a.instLen_le)

/-- The window after an accumulation decodes to what it did and the new instruction (rules R215, R225 d). -/
theorem State.Accumulated.windowReads (below : s.lastOpcodeIndex < s.instLen) (given : s.WindowReads ds)
    (planned : s.Planned inst size mode p) : t.WindowReads (ds ++ [d]) := by
  obtain ⟨n, chain⟩ := State.exists_chain_of_windowReads given below
  cases planned with
  | merged k bytes spelled last found =>
    exact a.windowReads_merged isSink near same present reads pos le chain spelled last found rfl
  | single k bytes spelled found =>
    exact a.windowReads_single isSink near same present reads pos le chain spelled found rfl

end Given

/-! ### The three instruction commands -/

section Command

variable {op : Byte} {s t : State} {i : Instr} {ds : List Delta} {a0 a1 : Field}

/-- A command that leaves the block running took no fault. -/
theorem exec_ne_takeFault (next : exec i s = .next t) (ok : t.failed = false) {c : Cause} {info : Field} :
    exec i s ≠ .next (s.takeFault op c info) := by
  intro fault
  cases next.symm.trans fault
  rw [State.takeFault_failed] at ok
  cases ok

/-- A command that leaves the block running found it running, the resets apart. -/
theorem running_of_command {r : Result} (next : command op s r = .next t) (gate : allowedWhenFailed op = false)
    (ok : t.failed = false) : s.failed = false := by
  by_contra failed
  rw [Bool.not_eq_false] at failed
  rw [command_refused r failed gate] at next
  cases next
  cases failed.symm.trans ok

/-- An instruction that is given, and completes, leaves its plan accumulated. -/
theorem accumulated_of_command {u : State} {inst : Byte} {size mode : Nat} {sp : Space} {operand : List Byte}
    {r0 r1 : Field} (next : command op s (serResult s u inst size mode sp operand r0 r1) = .next t)
    (running : s.failed = false) (ok : t.failed = false) :
    ∃ p, s.plan inst size mode = some p ∧ t.stream = (u.accumulate p sp operand size).stream := by
  obtain ⟨failed, -⟩ | ⟨-, ⟨v, r0, r1, r2, r3, completes, rfl⟩ | ⟨ends, -⟩ | ⟨c, info, -, rfl⟩⟩ := command_next next
  · cases failed.symm.trans running
  · obtain ⟨p, planned, -, rfl⟩ := serResult_ok completes
    exact ⟨p, planned, rfl⟩
  · unfold serResult at ends
    split at ends
    · cases ends
    · split at ends <;> cases ends
  · rw [State.takeFault_failed] at ok
    cases ok

/-- An instruction that completes is the last of what the window then decodes to, if its operand is read back. -/
theorem State.SerInv.windowReads_of_command (h : s.SerInv) (given : s.WindowReads ds) {inst : Byte}
    {size mode : Nat} {sp : Space} {operand : List Byte} {r0 r1 : Field} {cache : AddrCache} {d : Delta}
    (near : cache.nearSize = s.cache.nearSize) (same : cache.sameSize = s.cache.sameSize)
    (isSink : sp = .data ∨ sp = .addr) (present : inst ≠ instNoop) (pos : 1 ≤ size) (le : size ≤ max32)
    (reads : ∀ u p, s.Accumulated u p sp operand size → u.cache = cache →
      s.OperandReads u p sp inst size mode operand.length d)
    (next : command op s (serResult s { s with cache := cache } inst size mode sp operand r0 r1) = .next t)
    (running : s.failed = false) (ok : t.failed = false) : t.WindowReads (ds ++ [d]) := by
  obtain ⟨p, planned, stream⟩ := accumulated_of_command next running ok
  have a := State.accumulated_accumulate_cache (operand := operand) (size := size) isSink
    (h.rewrite_below planned) near same
  have cached : ({ s with cache := cache }.accumulate p sp operand size).cache = cache := by simp
  have below : s.lastOpcodeIndex < s.instLen := by
    obtain none | ⟨-, lt, -⟩ := h.last_opcode <;> omega
  refine State.windowReads_of_stream stream ?_
  exact a.windowReads isSink ((congrArg AddrCache.nearSize cached).trans near)
    ((congrArg AddrCache.sameSize cached).trans same) present (reads _ p a cached) pos le below given
    (State.planned_of_plan planned)

/-- A size that passes its checks is a positive word. -/
theorem State.size_of_sizeFault (fits : s.sizeFault a1 = none) : 1 ≤ a1.toNat ∧ a1.toNat ≤ max32 := by
  obtain ⟨-, pos, le⟩ := State.sizeFault_none fits
  have unsigned : s64 a1 = (a1.toNat : Int) := s64_of_nonneg pos.le
  omega

variable (h : s.SerInv) (ok : t.failed = false) (given : s.WindowReads ds)

include h ok given

theorem windowReads_of_serAdd (next : exec (.serAdd a0 a1) s = .next t) :
    t.WindowReads (ds ++ [.add a1.toNat (s.readBytes .tgt a0.toNat a1.toNat)]) := by
  have running := running_of_command (op := 0x62) next rfl ok
  cases size : s.sizeFault a1 with
  | some fault => exact absurd (exec_serAdd_of_sizeFault running size) (exec_ne_takeFault next ok)
  | none =>
    by_cases bad : max32 < a0.toNat ∨ s.tgtSize < a0.toNat + a1.toNat
    · exact absurd (exec_serAdd_of_badSource running size bad) (exec_ne_takeFault next ok)
    · rw [exec_serAdd_of_inRange size bad] at next
      obtain ⟨pos, le⟩ := State.size_of_sizeFault size
      exact h.windowReads_of_command given rfl rfl (.inl rfl) (by decide) pos le
        (fun u p a cache => a.add_reads (s.length_readBytes _ _ _) cache) next running ok

theorem windowReads_of_serRun (next : exec (.serRun a0 a1) s = .next t) :
    t.WindowReads (ds ++ [.run a0.toNat (BitVec.ofNat 8 a1.toNat)]) := by
  have running := running_of_command (op := 0x63) next rfl ok
  cases size : s.sizeFault a0 with
  | some fault => exact absurd (exec_serRun_of_sizeFault running size) (exec_ne_takeFault next ok)
  | none =>
    by_cases bad : 255 < a1.toNat
    · exact absurd (exec_serRun_of_badByte running size bad) (exec_ne_takeFault next ok)
    · rw [exec_serRun_of_inRange size bad] at next
      obtain ⟨pos, le⟩ := State.size_of_sizeFault size
      exact h.windowReads_of_command given rfl rfl (.inl rfl) (by decide) pos le
        (fun u p a cache => a.run_reads cache) next running ok

theorem windowReads_of_serCopy (next : exec (.serCopy a0 a1) s = .next t) :
    t.WindowReads (ds ++ [.copy a1.toNat (s.copyChoice a0.toNat).mode a0.toNat]) := by
  have running := running_of_command (op := 0x64) next rfl ok
  cases size : s.sizeFault a1 with
  | some fault => exact absurd (exec_serCopy_of_sizeFault running size) (exec_ne_takeFault next ok)
  | none =>
    by_cases bad : s64 a0 < 0 ∨ (s.hereAddress : Int) ≤ s64 a0
    · exact absurd (exec_serCopy_of_badAddress running size bad) (exec_ne_takeFault next ok)
    · rw [exec_serCopy_of_inRange size bad] at next
      obtain ⟨opened, -, -⟩ := State.sizeFault_none size
      obtain ⟨pos, le⟩ := State.size_of_sizeFault size
      have unsigned : s64 a0 = (a0.toNat : Int) := s64_of_nonneg (by omega)
      have mode_le := h.mode_le opened (s.cache.accepts_choose a0.toNat s.hereAddress)
      exact h.windowReads_of_command (cache := s.cache.update a0.toNat) given rfl rfl (.inr rfl) (by decide) pos le
        (fun u p a cache => a.copy_reads (by omega) h.win_len_le mode_le cache) next running ok

end Command

/-! ### The commands that clear the window -/

section Cleared

variable {op : Byte} {s t : State} {a0 : Field}

/-- The window that SER_START leaves decodes to nothing (rules R211, R222). -/
theorem State.windowReads_started (s : State) (flags : Nat) (bytes : List Byte) :
    { ((s.setFormatFlags flags).clearWindow).append .out bytes with
      winSrcMode := .none, winSrcSize := 0, winSrcPos := 0, serState := .ready }.WindowReads [] :=
  State.windowReads_of_stream (s.stream_startedWith flags bytes) (State.windowReads_nil rfl rfl rfl rfl rfl rfl)

/-- So does the window that SER_OUTPUT leaves (rule R221). -/
theorem State.windowReads_written (s : State) : s.written.WindowReads [] :=
  State.windowReads_of_stream s.stream_written (State.windowReads_nil rfl rfl rfl rfl rfl rfl)

theorem windowReads_of_serStart (next : exec (.serStart a0) s = .next t) (ok : t.failed = false) :
    t.WindowReads [] := by
  have running : s.failed = false := running_of_command (op := 0x60) next rfl ok
  have no_fault {op : Byte} {c : Cause} {info : Field} := exec_ne_takeFault (op := op) (c := c) (info := info)
    next ok
  by_cases idle : s.serState = .uninit
  case neg => exact absurd (exec_serStart_of_open running idle) no_fault
  rcases Nat.lt_or_ge 3 (u64 a0) with bad | flags
  · exact absurd (exec_serStart_of_badFlags running idle bad) no_fault
  cases valid : s.ctValid with
  | false => exact absurd (exec_serStart_of_invalidTable running idle flags valid) no_fault
  | true =>
    rcases Nat.lt_or_ge s.ctMaxMode (1 + s.cache.nearSize + s.cache.sameSize) with lacks | modes
    · exact absurd (exec_serStart_of_modes running idle flags valid lacks) no_fault
    rcases Nat.lt_or_ge s.params.outCap (s.outLen + 5) with full | room
    · exact absurd (exec_serStart_of_full running idle flags valid modes full) no_fault
    cases next.symm.trans (exec_serStart_of_room running idle flags valid modes room)
    exact State.windowReads_of_stream ((s.started a0).stream_respond _) (s.windowReads_started _ _)

theorem windowReads_of_serOutput (next : exec .serOutput s = .next t) (ok : t.failed = false) :
    t.WindowReads [] := by
  have running : s.failed = false := running_of_command (op := 0x66) next rfl ok
  by_cases opened : s.serState = .uninit
  · exact absurd (exec_serOutput_of_uninit running opened) (exec_ne_takeFault next ok)
  by_cases empty : s.winTargetLen = 0
  · cases next.symm.trans (exec_serOutput_of_empty running opened empty)
    exact State.windowReads_nil rfl rfl rfl rfl rfl rfl
  rcases Nat.lt_or_ge s.params.outCap (s.outLen + s.windowBytes.length) with full | room
  · exact absurd (exec_serOutput_of_full running opened empty full) (exec_ne_takeFault next ok)
  · cases next.symm.trans (exec_serOutput_of_room running opened empty room)
    exact State.windowReads_of_stream (s.written.stream_respond _) s.windowReads_written

theorem windowReads_of_sessionReset (next : exec .sessionReset s = .next t) : t.WindowReads [] := by
  have done : exec .sessionReset s = _ := command_done (op := 0x02) (.inr rfl) s.sessionReset
  cases next.symm.trans done
  exact State.windowReads_nil rfl rfl rfl rfl rfl rfl

theorem windowReads_of_reset (next : exec .reset s = .next t) : t.WindowReads [] := by
  have done : exec .reset s = _ := command_done (op := 0x01) (.inr rfl) s.fullReset
  cases next.symm.trans done
  exact State.windowReads_nil rfl rfl rfl rfl rfl rfl

end Cleared

/-! ### Every other step -/

section Step

variable {op : Byte} {s u t : State}

/-- What a command of number `op` may do to the window, but for the three that accumulate: leave an open stream
decoding to what it did, or leave a new stream or a new window, which decodes to nothing (rules R211, R222). -/
def State.KeepsOrClears (op : Byte) (s t : State) : Prop :=
  (s.serState ≠ .uninit ∧ ∀ ds, s.WindowReads ds → t.WindowReads ds) ∨
  ((s.serState = .uninit ∨ op = 0x66 ∧ t.failed = false) ∧ t.WindowReads [])

theorem State.keepsOrClears_of_stream (same : t.stream = s.stream) (stays : t.serState ≠ .uninit) :
    State.KeepsOrClears op s t := by
  have serState : t.serState = s.serState := congrArg Stream.serState same
  exact .inl ⟨serState ▸ stays, fun _ => State.windowReads_of_stream same⟩

theorem State.KeepsOrClears.respond (h : State.KeepsOrClears op s u) (r : Response) :
    State.KeepsOrClears op s (u.respond r) :=
  h.imp
    (fun ⟨opened, keeps⟩ => ⟨opened, fun ds given =>
      State.windowReads_of_stream (u.stream_respond r) (keeps ds given)⟩)
    fun ⟨clears, empty⟩ => ⟨clears, State.windowReads_of_stream (u.stream_respond r) empty⟩

/-- The window does not depend on the inputs to come, nor on where its reader is. -/
theorem State.WindowReads.turned {ds : List Delta} (given : s.WindowReads ds) (rest : List Input) (r : Reader) :
    { s with inputs := rest, reader := r }.WindowReads ds :=
  State.windowReads_of_stream (s := s) (t := { s with inputs := rest, reader := r }) rfl given

/-- A command that completes, leaving the stream open. -/
theorem Effect.keepsOrClears (e : Effect op s u) (h : s.SerInv) (stays : u.serState ≠ .uninit)
    (ok : u.failed = false) (other : s.serState = .uninit ∨ op ∉ [0x62, 0x63, 0x64]) : State.KeepsOrClears op s u := by
  by_cases outside : op ∉ streamOps
  case pos => exact State.keepsOrClears_of_stream (e.stream_eq outside) stays
  case neg =>
    cases e with
    | same => exact State.keepsOrClears_of_stream rfl stays
    | reset | sessionReset | serFinish => exact absurd rfl stays
    | acConfig _ _ _ idle | acReset _ idle | acEncode _ _ idle | acDecode _ _ _ idle | ctDefault _ idle
    | ctWrite _ _ _ idle | ctValidate _ _ idle => exact absurd idle stays
    | serStart _ flags bytes idle => exact .inr ⟨.inl idle, s.windowReads_started flags bytes⟩
    | serWindow _ m size pos ready =>
      refine .inl ⟨stays, fun ds given => ?_⟩
      obtain ⟨data, inst, addr, cache⟩ := h.ready_empty ready
      obtain ⟨target, last⟩ := h.idle_empty (ready ▸ SerState.noConfusion)
      rw [State.windowReads_of_empty inst given]
      exact State.windowReads_nil inst data addr cache target last
    | serOutputEmpty => exact .inr ⟨.inr ⟨rfl, ok⟩, State.windowReads_nil rfl rfl rfl rfl rfl rfl⟩
    | serOutput => exact .inr ⟨.inr ⟨rfl, ok⟩, s.windowReads_written⟩
    | accumulate _ _ inst size mode sp operand p cache which opened =>
      have none := other.resolve_left opened
      obtain ⟨rfl, -⟩ | ⟨rfl, -⟩ | ⟨rfl, -⟩ := which <;> exact absurd (by decide) none
    | varintEnc _ _ _ isEnc => obtain rfl | rfl := isEnc <;> exact absurd (by decide) outside
    | parse _ _ _ isParse => obtain rfl | rfl | rfl := isParse <;> exact absurd (by decide) outside
    | _ => exact absurd (by decide) outside

/-- However a command ends: where it fails, or the block has failed, the window is left. -/
theorem Ending.keepsOrClears (e : Ending op s t) (h : s.SerInv) (stays : t.serState ≠ .uninit)
    (quiet : t.failed = true ∨ s.serState = .uninit ∨ op ∉ [0x62, 0x63, 0x64]) : State.KeepsOrClears op s t := by
  cases e with
  | refused => exact State.keepsOrClears_of_stream (s.stream_respond _) stays
  | endOfData => exact State.keepsOrClears_of_stream (s.stream_respond _) stays
  | fault _ c info =>
    have same := s.stream_takeFault op c info
    exact State.keepsOrClears_of_stream same stays
  | completed gate u r0 r1 r2 r3 effect =>
    cases failed : u.failed with
    | true =>
      rw [effect.eq_of_failed gate failed] at stays ⊢
      exact State.keepsOrClears_of_stream (s.stream_respond _) stays
    | false =>
      have other := quiet.resolve_left (by simp [failed])
      exact (effect.keepsOrClears h stays failed other).respond _

/-- A word that is no command leaves the block failed (60_exceptions.md rules R263, R264). -/
theorem rejectWord_failed (w : CommandWord) (s : State) : (rejectWord w s).failed = true := by
  unfold rejectWord
  split_ifs with refused
  · exact (Bool.and_eq_true _ _ ▸ refused).1
  · exact s.takeFault_failed _ _ _

/-- An instruction command that leaves the block running leaves a window that decodes to one instruction more. -/
theorem exists_windowReads_of_instruction {w : CommandWord} {ds : List Delta} (h : s.SerInv)
    (given : s.WindowReads ds) (number : opBits w ∈ [0x62, 0x63, 0x64]) (next : stepCommand w s = .next t)
    (ok : t.failed = false) : ∃ ds, t.WindowReads ds := by
  unfold stepCommand at next
  cases decoded : decodeCommand w with
  | error e =>
    rw [decoded] at next
    cases next
    cases ok.symm.trans (rejectWord_failed w s)
  | ok i =>
    rw [decoded] at next
    obtain ⟨-, command⟩ := decodeCommand_eq_ok_iff.mp decoded
    obtain number | number | number : opBits w = 0x62 ∨ opBits w = 0x63 ∨ opBits w = 0x64 := by
      simpa using number
    all_goals
      rw [number] at command
      cases command
    · exact ⟨_, windowReads_of_serAdd h ok given next⟩
    · exact ⟨_, windowReads_of_serRun h ok given next⟩
    · exact ⟨_, windowReads_of_serCopy h ok given next⟩

/-- A step that is none of the four commands, or fails, leaves an open stream decoding to what it did. -/
theorem windowReads_of_step {ds : List Delta} (h : s.SerInv) (opened : s.serState ≠ .uninit)
    (given : s.WindowReads ds) (next : step s = .next t) (stays : t.serState ≠ .uninit)
    (quiet : t.failed = true ∨ ∀ w rest, s.inputs = .command w :: rest →
      opBits w ≠ 0x62 ∧ opBits w ≠ 0x63 ∧ opBits w ≠ 0x64 ∧ opBits w ≠ 0x66) : t.WindowReads ds := by
  obtain ⟨-, rfl⟩ | ⟨rest, -, rfl⟩ | ⟨rest, r, -, rfl⟩ | ⟨w, rest, hs, ending⟩ := step_next next
  · exact given
  · exact absurd rfl stays
  · exact given.turned rest r
  · have kept := ending.keepsOrClears (h.of_stream rfl) stays (quiet.imp_right fun none => .inr (by
      obtain ⟨add, run, copy, -⟩ := none w rest hs
      simpa using ⟨add, run, copy⟩))
    obtain ⟨-, keeps⟩ | ⟨idle | ⟨output, ok⟩, -⟩ := kept
    · exact keeps ds (given.turned rest s.reader)
    · exact absurd idle opened
    · obtain failed | none := quiet
      · cases ok.symm.trans failed
      · exact absurd output (none w rest hs).2.2.2

/-- Every step keeps an open stream's window one that decodes. -/
theorem exists_windowReads_of_step (h : s.SerInv) (given : s.serState ≠ .uninit → ∃ ds, s.WindowReads ds)
    (next : step s = .next t) (stays : t.serState ≠ .uninit) : ∃ ds, t.WindowReads ds := by
  obtain ⟨-, rfl⟩ | ⟨rest, -, rfl⟩ | ⟨rest, r, -, rfl⟩ | ⟨w, rest, hs, ending⟩ := step_next next
  · exact given stays
  · exact absurd rfl stays
  · exact (given stays).imp fun _ reads => reads.turned rest r
  · by_cases quiet : t.failed = true ∨ s.serState = .uninit ∨ opBits w ∉ [0x62, 0x63, 0x64]
    · obtain ⟨opened, keeps⟩ | ⟨-, empty⟩ := ending.keepsOrClears (h.of_stream rfl) stays quiet
      · obtain ⟨ds, reads⟩ := given opened
        exact ⟨ds, keeps ds (reads.turned rest s.reader)⟩
      · exact ⟨[], empty⟩
    · simp only [not_or, not_not, Bool.not_eq_true] at quiet
      obtain ⟨ok, opened, number⟩ := quiet
      obtain ⟨ds, reads⟩ := given opened
      rw [step_of_command hs] at next
      exact exists_windowReads_of_instruction (s := { s with inputs := rest }) (h.of_stream rfl)
        (reads.turned rest s.reader) number next ok

end Step

/-- Settles O48: the instruction given is read back from the bytes that its plan put down, the groups before it
from the bytes they had, and no other step writes the window but by clearing it. -/
theorem windowDecodesToWhatWasGiven : Obligations.WindowDecodesToWhatWasGiven :=
  ⟨fun _ _ _ _ _ h _ _ ok given =>
      ⟨windowReads_of_serAdd h ok given, windowReads_of_serRun h ok given, windowReads_of_serCopy h ok given⟩,
    fun _ _ _ => ⟨windowReads_of_serStart, windowReads_of_serOutput, windowReads_of_sessionReset,
      windowReads_of_reset⟩,
    fun _ _ _ h opened given next stays quiet => windowReads_of_step h opened given next stays quiet,
    fun _ _ h _ given next stays => exists_windowReads_of_step h given next stays⟩

end Sys2Proof.Machine

/-! ## The system commands and the commands that only set registers (46_system.md)

An operand names a space or a register by its number: what each number names is said once, and from it each
command's equations, one per outcome. A register or space that a command may use is then a line of a list, and
the statements about all of them (O12 to O15) are one equation and that list. -/

namespace Sys2Proof.Machine

/-! ### The numbers of the spaces -/

@[simp] theorem Space.ofNumber_number (sp : Space) : Space.ofNumber sp.number = some sp := by
  cases sp <;> rfl

theorem Space.number_of_ofNumber {n : Nat} {sp : Space} (named : Space.ofNumber n = some sp) :
    sp.number = n := by
  unfold Space.ofNumber at named
  split at named
  all_goals cases named
  all_goals rfl

theorem Space.number_le (sp : Space) : sp.number ≤ 6 := by
  cases sp <;> decide

/-- The spaces MEM_WRITE may write have the lowest numbers (20_memory.md rules R60, R67). -/
theorem Space.writable_iff {sp : Space} : sp.writable = true ↔ sp.number ≤ 2 := by
  cases sp <;> decide

theorem Space.ofNumber_of_gt {n : Nat} (gt : 6 < n) : Space.ofNumber n = none :=
  Option.eq_none_iff_forall_ne_some.mpr fun sp named =>
    absurd (Space.number_of_ofNumber named ▸ sp.number_le) (not_le.mpr gt)

theorem Space.not_writable_of_gt {n : Nat} (gt : 2 < n) : (Space.ofNumber n).filter Space.writable = none :=
  Option.filter_eq_none_iff.mpr fun _ named writable =>
    absurd (Space.number_of_ofNumber named ▸ Space.writable_iff.mp writable) (not_le.mpr gt)

/-! ### MEM_WRITE -/

/-- A store to SRC, TGT or IN changes the bytes of that space alone. -/
theorem State.writeByte_writable_frame (s : State) {sp : Space} (writable : sp.writable = true) (a : Nat)
    (v : Byte) : { s.writeByte sp a v with src := s.src, tgt := s.tgt, inp := s.inp } = s := by
  cases sp with
  | src | tgt | inp => rfl
  | data | inst | addr | out => cases writable

/-- MEM_WRITE takes the byte for one of an indexed block (20_memory.md rule R68). -/
theorem State.immutable_iff {s : State} {sp : Space} {a : Nat} :
    (sp == .src && s.srcIndexed a) = true ↔
      sp = .src ∧ s.bhReady = true ∧ (a : Int) < (s.bhLastBlock + 1) * s.params.b := by
  simp [State.srcIndexed]

section MemWrite

variable {s : State} {a0 a1 a2 : Field} {sp : Space}

theorem exec_memWrite_of_badSpace (running : s.failed = false) (bad : 2 < u64 a0) :
    exec (.memWrite a0 a1 a2) s = .next (s.takeFault 0x06 .badOperand a0) := by
  change execMemWrite a0 a1 a2 s = _
  rw [execMemWrite, Space.not_writable_of_gt bad, command_raise (.inl running)]

/-- MEM_WRITE to a space it may write: the operands are checked in their order (rule R246). -/
theorem exec_memWrite_of_space (named : u64 a0 = sp.number) (writable : sp.writable = true) :
    exec (.memWrite a0 a1 a2) s = command 0x06 s
      (if Params.cap s.params sp ≤ u64 a1 then .raise .badOperand a1
       else if 255 < u64 a2 then .raise .badOperand a2
       else if sp == .src && s.srcIndexed (u64 a1) then .raise .srcImmutable a1
       else .done (s.writeByte sp (u64 a1) (BitVec.ofNat 8 (u64 a2)))) := by
  change execMemWrite a0 a1 a2 s = _
  rw [execMemWrite, named, Space.ofNumber_number, Option.filter_some, if_pos writable]

variable (running : s.failed = false) (named : u64 a0 = sp.number) (writable : sp.writable = true)

include running named writable

theorem exec_memWrite_of_badAddress (bad : Params.cap s.params sp ≤ u64 a1) :
    exec (.memWrite a0 a1 a2) s = .next (s.takeFault 0x06 .badOperand a1) := by
  rw [exec_memWrite_of_space named writable, if_pos bad, command_raise (.inl running)]

theorem exec_memWrite_of_badByte (inside : u64 a1 < Params.cap s.params sp) (bad : 255 < u64 a2) :
    exec (.memWrite a0 a1 a2) s = .next (s.takeFault 0x06 .badOperand a2) := by
  rw [exec_memWrite_of_space named writable, if_neg (not_le.mpr inside), if_pos bad,
    command_raise (.inl running)]

variable (inside : u64 a1 < Params.cap s.params sp) (byte : u64 a2 ≤ 255)

include inside byte

theorem exec_memWrite_of_indexed
    (indexed : sp = .src ∧ s.bhReady = true ∧ (u64 a1 : Int) < (s.bhLastBlock + 1) * s.params.b) :
    exec (.memWrite a0 a1 a2) s = .next (s.takeFault 0x06 .srcImmutable a1) := by
  rw [exec_memWrite_of_space named writable, if_neg (not_le.mpr inside), if_neg (not_lt.mpr byte),
    if_pos (State.immutable_iff.mpr indexed), command_raise (.inl running)]

theorem exec_memWrite_of_mutable
    (mutable : ¬ (sp = .src ∧ s.bhReady = true ∧ (u64 a1 : Int) < (s.bhLastBlock + 1) * s.params.b)) :
    exec (.memWrite a0 a1 a2) s =
      .next ((s.writeByte sp (u64 a1) (BitVec.ofNat 8 (u64 a2))).respond (Response.okay 0 0 0 0)) := by
  rw [exec_memWrite_of_space named writable, if_neg (not_le.mpr inside), if_neg (not_lt.mpr byte),
    if_neg (mt State.immutable_iff.mp mutable), command_done (.inl running)]

end MemWrite

/-- The spaces MEM_WRITE may write, with the number and the bound that O15 gives each. -/
theorem writable_spaces {s : State} {e : Nat × Space × Nat}
    (mem : e ∈ [(0, Space.src, s.params.srcCap), (1, .tgt, s.params.tgtCap), (2, .inp, s.params.inCap)]) :
    e.1 = e.2.1.number ∧ e.2.1.writable = true ∧ e.2.2 = Params.cap s.params e.2.1 := by
  revert e
  simp only [List.forall_mem_cons]
  exact ⟨⟨rfl, rfl, rfl⟩, ⟨rfl, rfl, rfl⟩, ⟨rfl, rfl, rfl⟩, nofun⟩

/-- Settles O15: each check in its order, then a store of one byte. -/
theorem memWriteCompletes : Obligations.MemWriteCompletes := by
  intro s a0 a1 a2 running
  refine ⟨exec_memWrite_of_badSpace running, fun e mem number => ?_⟩
  obtain ⟨eq, writable, bound⟩ := writable_spaces mem
  have named : u64 a0 = e.2.1.number := number.trans eq
  rw [bound]
  exact ⟨exec_memWrite_of_badAddress running named writable,
    exec_memWrite_of_badByte running named writable,
    fun inside byte => ⟨exec_memWrite_of_indexed running named writable inside byte,
      fun mutable => ⟨_, exec_memWrite_of_mutable running named writable inside byte mutable,
        s.readByte_writeByte_self e.2.1 _ _, fun _ _ => s.readByte_writeByte_of_ne _,
        s.writeByte_writable_frame writable _ _⟩⟩⟩

/-! ### MEM_READ -/

section MemRead

variable {s : State} {a0 a1 : Field} {sp : Space}

theorem exec_memRead_of_badSpace (bad : 6 < u64 a0) :
    exec (.memRead a0 a1) s = .next (s.takeFault 0x05 .badOperand a0) := by
  change execMemRead a0 a1 s = _
  rw [execMemRead, Space.ofNumber_of_gt bad, command_raise (.inr rfl)]

theorem exec_memRead_of_badAddress (named : u64 a0 = sp.number) (bad : s.readBound sp ≤ u64 a1) :
    exec (.memRead a0 a1) s = .next (s.takeFault 0x05 .badOperand a1) := by
  change execMemRead a0 a1 s = _
  rw [execMemRead, named, Space.ofNumber_number]
  dsimp only
  rw [if_pos bad, command_raise (.inr rfl)]

theorem exec_memRead_of_inside (named : u64 a0 = sp.number) (inside : u64 a1 < s.readBound sp) :
    exec (.memRead a0 a1) s =
      .next (s.respond (Response.okay ((s.readByte sp (u64 a1)).setWidth 64) 0 0 0)) := by
  change execMemRead a0 a1 s = _
  rw [execMemRead, named, Space.ofNumber_number]
  dsimp only
  rw [if_neg (not_le.mpr inside), command_ok (.inr rfl), field, BitVec.ofNat_toNat]

end MemRead

/-- The seven spaces, with the number and the bound that O14 gives each. -/
theorem readable_spaces {s : State} {e : Nat × Space × Nat}
    (mem : e ∈ [(0, Space.src, s.params.srcCap), (1, .tgt, s.params.tgtCap), (2, .inp, s.params.inCap),
      (3, .data, s.dataLen), (4, .inst, s.instLen), (5, .addr, s.addrLen), (6, .out, s.outLen)]) :
    e.1 = e.2.1.number ∧ e.2.2 = s.readBound e.2.1 := by
  revert e
  simp only [List.forall_mem_cons]
  exact ⟨⟨rfl, rfl⟩, ⟨rfl, rfl⟩, ⟨rfl, rfl⟩, ⟨rfl, rfl⟩, ⟨rfl, rfl⟩, ⟨rfl, rfl⟩, ⟨rfl, rfl⟩, nofun⟩

/-- Settles O14, space by space of the list. -/
theorem memReadCompletes : Obligations.MemReadCompletes := by
  intro s a0 a1
  refine ⟨fun e mem number => ?_, exec_memRead_of_badSpace⟩
  obtain ⟨eq, bound⟩ := readable_spaces mem
  rw [bound]
  exact ⟨exec_memRead_of_inside (number.trans eq), exec_memRead_of_badAddress (number.trans eq)⟩

/-! ### RDREG -/

/-- The numbers of the register map (10_state.md rule R36). -/
def registerNumbers : List Nat :=
  [0x00, 0x01, 0x02, 0x03, 0x04, 0x05, 0x06, 0x07, 0x08, 0x09, 0x0A, 0x0B, 0x0C, 0x0D, 0x0E, 0x10, 0x11, 0x12,
    0x14, 0x18, 0x19, 0x1A, 0x1B, 0x1C, 0x1D, 0x1E, 0x1F, 0x20, 0x21, 0x22, 0x30, 0x31, 0x32, 0x33, 0x34]

/-- A number that reads as a register is in the map. -/
theorem State.mem_registerNumbers {s : State} {n : Nat} {v : Field} (mapped : s.readReg n = some v) :
    n ∈ registerNumbers := by
  unfold State.readReg at mapped
  split at mapped
  any_goals decide
  exact nomatch mapped

theorem State.readReg_of_unmapped (s : State) {n : Nat} (unmapped : n ∉ registerNumbers) :
    s.readReg n = none :=
  Option.eq_none_iff_forall_ne_some.mpr fun _ mapped => unmapped (State.mem_registerNumbers mapped)

/-- `ERRCAUSE`, none being 0 (60_exceptions.md rule R261). -/
theorem State.readReg_errCause (s : State) :
    s.readReg 0x01 = some (match s.errCause with | none => 0 | some c => field c.code) := by
  unfold State.readReg
  cases s.errCause <;> rfl

/-- `ERRCMD`, a byte zero-extended (00_scope.md rule R9). -/
theorem State.readReg_errCmd (s : State) : s.readReg 0x02 = some (s.errCmd.setWidth 64) :=
  congrArg some (BitVec.ofNat_toNat 64 s.errCmd)

theorem exec_rdreg_of_mapped {s : State} {a0 v : Field} (mapped : s.readReg (u64 a0) = some v) :
    exec (.rdreg a0) s = .next (s.respond (Response.okay v 0 0 0)) := by
  change execRdreg a0 s = _
  rw [execRdreg, mapped, command_ok (.inr rfl)]

theorem exec_rdreg_of_unmapped {s : State} {a0 : Field} (unmapped : u64 a0 ∉ registerNumbers) :
    exec (.rdreg a0) s = .next (s.takeFault 0x03 .badOperand a0) := by
  change execRdreg a0 s = _
  rw [execRdreg, s.readReg_of_unmapped unmapped, command_raise (.inr rfl)]

/-- Settles O12: the register map line by line, and no other number. -/
theorem rdregCompletes : Obligations.RdregCompletes := by
  intro s a0
  refine ⟨fun e mem number => exec_rdreg_of_mapped ((congrArg s.readReg number).trans ?_), exec_rdreg_of_unmapped⟩
  clear number
  revert e
  simp only [List.forall_mem_cons]
  refine ⟨rfl, s.readReg_errCause, s.readReg_errCmd, ?_⟩
  repeat refine ⟨rfl, ?_⟩
  exact nofun

/-! ### WRREG -/

theorem State.writeRange_of_readOnly (s : State) {n : Nat} (outside : n < 0x08 ∨ 0x0E < n) :
    s.writeRange n = none := by
  unfold State.writeRange
  split
  any_goals omega
  rfl

section Wrreg

variable {s : State} {a0 a1 : Field} (running : s.failed = false)

include running

theorem exec_wrreg_of_readOnly (outside : u64 a0 < 0x08 ∨ 0x0E < u64 a0) :
    exec (.wrreg a0 a1) s = .next (s.takeFault 0x04 .badOperand a0) := by
  change execWrreg a0 a1 s = _
  rw [execWrreg, s.writeRange_of_readOnly outside, command_raise (.inl running)]

/-- WRREG of a writable register, with its range (rule R244). -/
theorem exec_wrreg_of_writable {lo hi : Int} (range : s.writeRange (u64 a0) = some (lo, hi)) :
    exec (.wrreg a0 a1) s =
      .next (if decide (lo ≤ s64 a1) && decide (s64 a1 ≤ hi)
        then (s.writeReg (u64 a0) (s64 a1)).respond (Response.okay 0 0 0 0)
        else s.takeFault 0x04 .badOperand a1) := by
  change execWrreg a0 a1 s = _
  rw [execWrreg, range]
  dsimp only
  by_cases inside : lo ≤ s64 a1 ∧ s64 a1 ≤ hi
  · rw [if_neg (by omega), if_pos (by simpa using inside), command_done (.inl running)]
  · rw [if_pos (by omega), if_neg (by simpa using inside), command_raise (.inl running)]

end Wrreg

/-- Settles O13: the seven writable registers have their ranges, and the other numbers none. -/
theorem wrregCompletes : Obligations.WrregCompletes := by
  intro s a0 a1 running
  refine ⟨?_, ?_, ?_, ?_, ?_, ?_, ?_, exec_wrreg_of_readOnly running⟩
  all_goals
    rintro rfl
    exact exec_wrreg_of_writable running rfl

/-! ### RESET and SESSION_RESET -/

theorem exec_reset (s : State) : exec .reset s = .next (s.fullReset.respond (Response.okay 0 0 0 0)) :=
  command_done (op := 0x01) (.inr rfl) s.fullReset

theorem exec_sessionReset (s : State) :
    exec .sessionReset s = .next (s.sessionReset.respond (Response.okay 0 0 0 0)) :=
  command_done (op := 0x02) (.inr rfl) s.sessionReset

theorem step_of_hardwareReset {s : State} {rest : List Input} (hs : s.inputs = .hardwareReset :: rest) :
    step s = .next { s with inputs := rest }.fullReset := by
  unfold step
  rw [hs]

/-- The state a reset leaves is that after reset, but for the model's own ports and number of reset (logs 2,
7). -/
theorem State.fullReset_eq_resetWith (s : State) :
    { s.fullReset with epoch := 0, inputs := [], responses := [] } = State.resetWith s.params := rfl

/-- Settles O10: both resets leave the same state but for the ports. -/
theorem resetCompletes : Obligations.ResetCompletes := fun s =>
  ⟨s.fullReset, exec_reset s, fun rest =>
    step_of_hardwareReset (s := { s with inputs := .hardwareReset :: rest }) rfl, s.fullReset_inputs,
    s.fullReset_responses, s.fullReset_epoch, s.fullReset_eq_resetWith⟩

/-- Every register but STATUS and the extent of the dictionary is at its reset value after a reset of the session
(70_reset_and_hazards.md rule R292). -/
theorem State.readReg_sessionReset (s : State) {n : Nat} (status : n ≠ 0x00) (srcSize : n ≠ 0x04)
    (startOffset : n ≠ 0x05) (lastBlock : n ≠ 0x06) (lastEnd : n ≠ 0x07) :
    s.sessionReset.readReg n = (State.resetWith s.params).readReg n := by
  by_cases mapped : n ∈ registerNumbers
  · fin_cases mapped
    any_goals rfl
    all_goals contradiction
  · rw [State.readReg_of_unmapped _ mapped, State.readReg_of_unmapped _ mapped]

/-- A reset of the session stores no byte (70_reset_and_hazards.md rule R292; log 2). -/
theorem State.readByte_sessionReset (s : State) (sp : Space) (a : Nat) :
    s.sessionReset.readByte sp a = s.readByte sp a :=
  State.readByte_congr (by cases sp <;> rfl) s.sessionReset_epoch a

/-- With no entry listed the code table is the default one (10_state.md rule R33). -/
theorem State.ctEntry_of_empty {s : State} (empty : s.ct = []) (op : Nat) : s.ctEntry op = defaultEntry op := by
  rw [State.ctEntry, empty]
  rfl

/-- Settles O11, register by register of the map and byte by byte of memory. -/
theorem sessionResetCompletes : Obligations.SessionResetCompletes := fun s =>
  ⟨_, exec_sessionReset s, rfl, fun _ => s.readReg_sessionReset, rfl, rfl, rfl, rfl, rfl,
    State.ctEntry_of_empty rfl, rfl, rfl, rfl, rfl, rfl, rfl, rfl, rfl, rfl, rfl, rfl,
    fun sp a => (State.readByte_respond _ _ sp a).trans (s.readByte_sessionReset sp a)⟩

/-! ### The commands that only set registers -/

section Plain

variable {s : State} {a0 a1 : Field} (running : s.failed = false)

include running

theorem exec_nop : exec .nop s = .next (s.respond (Response.okay 0 0 0 0)) :=
  command_done (op := 0x00) (.inl running) s

theorem exec_bmClear : exec .bmClear s =
    .next ({ s with bmSrc := -1, bmTgt := 0, bmSize := 0 }.respond (Response.okay 0 0 0 0)) :=
  command_done (op := 0x35) (.inl running) _

theorem exec_outClear : exec .outClear s = .next ({ s with outLen := 0 }.respond (Response.okay 0 0 0 0)) :=
  command_done (op := 0x68) (.inl running) _

section Open

variable (opened : s.serState ≠ .uninit)

include opened

theorem exec_acConfig_of_open :
    exec (.acConfig a0 a1) s = .next (s.takeFault 0x40 .badState (field s.serState.code)) := by
  change command 0x40 s (ite _ _ _) = _
  rw [if_pos opened, State.badState, command_raise (.inl running)]

theorem exec_acReset_of_open :
    exec .acReset s = .next (s.takeFault 0x41 .badState (field s.serState.code)) := by
  change command 0x41 s (ite _ _ _) = _
  rw [if_pos opened, State.badState, command_raise (.inl running)]

theorem exec_ctDefault_of_open :
    exec .ctDefault s = .next (s.takeFault 0x50 .badState (field s.serState.code)) := by
  change command 0x50 s (ite _ _ _) = _
  rw [if_pos opened, State.badState, command_raise (.inl running)]

end Open

variable (idle : s.serState = .uninit)

include idle

theorem exec_acConfig_of_badSizes (bad : s64 a0 < 0 ∨ s64 a1 < 0 ∨ 254 < s64 a0 + s64 a1) :
    exec (.acConfig a0 a1) s = .next (s.takeFault 0x40 .badCacheSizes a0) := by
  change command 0x40 s (ite _ _ _) = _
  rw [if_neg (not_not.mpr idle), if_pos bad, command_raise (.inl running)]

theorem exec_acConfig_of_sizes (near : 0 ≤ s64 a0) (same : 0 ≤ s64 a1) (sum : s64 a0 + s64 a1 ≤ 254) :
    exec (.acConfig a0 a1) s =
      .next ({ s with cache := AddrCache.cleared a0.toNat a1.toNat }.respond (Response.okay 0 0 0 0)) := by
  have nearSize : (s64 a0).toNat = a0.toNat := congrArg Int.toNat (s64_of_nonneg near)
  have sameSize : (s64 a1).toNat = a1.toNat := congrArg Int.toNat (s64_of_nonneg same)
  change command 0x40 s (ite _ _ _) = _
  rw [if_neg (not_not.mpr idle), if_neg (by omega), command_done (.inl running), nearSize, sameSize]

theorem exec_acReset_of_idle :
    exec .acReset s = .next ({ s with cache := s.cache.clear }.respond (Response.okay 0 0 0 0)) := by
  change command 0x41 s (ite _ _ _) = _
  rw [if_neg (not_not.mpr idle), command_done (.inl running)]

theorem exec_ctDefault_of_idle :
    exec .ctDefault s =
      .next ({ s with ct := [], ctValid := true, ctMaxMode := 8 }.respond (Response.okay 0 0 0 0)) := by
  change command 0x50 s (ite _ _ _) = _
  rw [if_neg (not_not.mpr idle), command_done (.inl running)]

end Plain

/-- Settles O16, command by command. -/
theorem plainCommandsComplete : Obligations.PlainCommandsComplete := fun _ _ _ running =>
  ⟨exec_nop running, exec_bmClear running, exec_outClear running,
    fun idle => ⟨exec_acConfig_of_badSizes running idle, exec_acConfig_of_sizes running idle,
      exec_acReset_of_idle running idle,
      ⟨_, exec_ctDefault_of_idle running idle, State.ctEntry_of_empty rfl, rfl, rfl, rfl⟩⟩,
    fun opened => ⟨exec_acConfig_of_open running opened, exec_acReset_of_open running opened,
      exec_ctDefault_of_open running opened⟩⟩

end Sys2Proof.Machine

/-! ## Faults and reset (60_exceptions.md, 70_reset_and_hazards.md)

What each ending of a command leaves of the state and of the error registers (O6, O8), what becomes of a word that
is not executed (O7), and what a reset leaves (O9, O59). -/

namespace Sys2Proof.Machine

/-! ### Precise faults -/

/-- Every cause is reported with a fault status (60_exceptions.md rules R260, R261). -/
theorem Cause.status_isFault (c : Cause) : c.status.isFault = true := by
  cases c <;> rfl

theorem Cause.status_ne_endOfData (c : Cause) : c.status ≠ .endOfData := by
  cases c <;> exact Status.noConfusion

/-- What the one response of an ending tells: a fault status, that a fault was taken and nothing else done;
END_OF_DATA, that a reading command changed nothing (60_exceptions.md rules R264, R268, R270). -/
theorem Ending.precise {op : Byte} {s t : State} {r : Response} (e : Ending op s t)
    (answered : t.responses = s.responses ++ [r]) :
    (r.status.isFault = true → ∃ c info, r = Response.bare c.status ∧ t = s.takeFault op c info) ∧
    (r.status = .endOfData → t = s.respond (Response.bare .endOfData) ∧
      (op = 0x14 ∨ op = 0x15 ∨ op = 0x16 ∨ op = 0x43)) := by
  have response {r' : Response} (gave : t.responses = s.responses ++ [r']) : r = r' :=
    List.singleton_inj.mp (List.append_cancel_left (answered.symm.trans gave))
  cases e with
  | refused =>
    obtain rfl := response rfl
    exact ⟨nofun, nofun⟩
  | completed _ u r0 r1 r2 r3 effect =>
    obtain rfl := response (congrArg (· ++ [Response.okay r0 r1 r2 r3]) effect.ports_eq.2)
    exact ⟨nofun, nofun⟩
  | endOfData _ reads =>
    obtain rfl := response rfl
    exact ⟨nofun, fun _ => ⟨rfl, reads⟩⟩
  | fault _ c info =>
    obtain rfl := response (s.takeFault_responses op c info)
    exact ⟨fun _ => ⟨c, info, rfl, rfl⟩, fun status => absurd status c.status_ne_endOfData⟩

/-- Settles O6, from what the response of an ending tells and what fault entry writes. -/
theorem faultsArePrecise : Obligations.FaultsArePrecise := by
  intro s t w rest r hs next answered
  obtain ⟨idle, -⟩ | ⟨_, reset, -⟩ | ⟨_, _, turn, -⟩ | ⟨v, rest', presented, ending⟩ := step_next next
  · cases hs.symm.trans idle
  · cases hs.symm.trans reset
  · cases hs.symm.trans turn
  cases hs.symm.trans presented
  obtain ⟨fault, endOfData⟩ := ending.precise answered
  refine ⟨fun status => ?_, endOfData⟩
  obtain ⟨c, info, rfl, rfl⟩ := fault status
  exact ⟨c, info, rfl,
    fun running => State.takeFault_first (s := { s with inputs := rest }) running (opBits w) c info,
    fun failed => State.takeFault_again (s := { s with inputs := rest }) failed (opBits w) c info⟩

/-! ### Words that are not executed -/

theorem allowedWhenFailed_iff {op : Byte} :
    allowedWhenFailed op = true ↔ op = 0x01 ∨ op = 0x02 ∨ op = 0x03 ∨ op = 0x05 := by
  simp [allowedWhenFailed, or_assoc]

theorem stepCommand_of_rejected {w : CommandWord} (rejected : ¬ ∃ i, decodeCommand w = .ok i) (s : State) :
    stepCommand w s = .next (rejectWord w s) := by
  unfold stepCommand
  cases decoded : decodeCommand w with
  | ok i => exact absurd ⟨i, decoded⟩ rejected
  | error => rfl

/-- A word that spells no command, where it is not refused, takes the fault of rule R84 of 30_encoding.md. -/
theorem rejectWord_of_gate {w : CommandWord} {s : State}
    (gate : s.failed = false ∨ allowedWhenFailed (opBits w) = true) :
    rejectWord w s = s.takeFault (opBits w) .illegalCommand (w.extractLsb' 0 64) := by
  unfold rejectWord
  rw [if_neg (by rcases gate with h | h <;> simp [h])]

section Failed

variable {s : State} {w : CommandWord} (failed : s.failed = true)

include failed

/-- The gate of the failed state comes before everything else that a word may have wrong (60_exceptions.md rules
R263, R265). -/
theorem stepCommand_of_refused (gate : allowedWhenFailed (opBits w) = false) :
    stepCommand w s = .next (s.respond (Response.bare .refused)) := by
  by_cases spelled : ∃ i, decodeCommand w = .ok i
  · obtain ⟨i, decoded⟩ := spelled
    obtain ⟨v, laidOut, number⟩ := encode_of_decodeCommand decoded
    rw [stepCommand_of_decoded decoded]
    obtain ⟨op, a0, a1, a2, a3, r, word, meaning⟩ | ⟨b, opcode, -⟩ := exec_shape i s
    · cases laidOut.symm.trans word
      rw [opBits_commandWord] at number
      rw [meaning, command_refused r failed (number ▸ gate)]
    · cases laidOut.symm.trans opcode
  · rw [stepCommand_of_rejected spelled, rejectWord, if_pos (by simp [failed, gate])]

/-- In the failed state a word that spells no command is answered, and changes nothing. -/
theorem rejectWord_of_failed : ∃ r, rejectWord w s = s.respond r := by
  cases gate : allowedWhenFailed (opBits w) with
  | false => exact ⟨Response.bare .refused, if_pos (by simp [failed, gate])⟩
  | true => exact ⟨_, (rejectWord_of_gate (.inr gate)).trans (State.takeFault_again failed ..)⟩

/-- A reserved field that is not zero is a fault of its own in the failed state, but the record of the first one
stays (30_encoding.md rule R84; 60_exceptions.md rules R264, R265). -/
theorem stepCommand_of_reserved (gate : allowedWhenFailed (opBits w) = true) (rsv : rsvBits w ≠ 0) :
    stepCommand w s = .next (s.respond (Response.bare .illegal)) := by
  have rejected : ¬ ∃ i, decodeCommand w = .ok i := fun spelled => rsv ((exists_decodeCommand_iff w).mp spelled).1
  rw [stepCommand_of_rejected rejected, rejectWord_of_gate (.inr gate), State.takeFault_again failed]
  rfl

end Failed

/-- While nothing has failed, a word that spells no command is recorded by its lowest lane, whose first byte is its
number (30_encoding.md rules R80, R84; 60_exceptions.md rule R264). -/
theorem stepCommand_of_illegal {s : State} {w : CommandWord} (running : s.failed = false)
    (rejected : ¬ ∃ i, decodeCommand w = .ok i) :
    stepCommand w s =
      .next { s with failed := true, errCause := some .illegalCommand, errCmd := BitVec.ofNat 8 w.toNat,
                     errInfo := BitVec.ofNat 64 w.toNat,
                     responses := s.responses ++ [Response.bare .illegal] } := by
  rw [stepCommand_of_rejected rejected, rejectWord_of_gate (.inl running), State.takeFault_first running]
  rfl

/-- The outcome of a command that its rule decides: a next state, and a response that tells neither that the
command was refused nor that the word spells none. -/
def Executed (s : State) (o : Host.Outcome State Fault Refusal) : Prop :=
  ∃ t r, o = .next t ∧ t.responses = s.responses ++ [r] ∧ r.status ≠ .refused ∧ r.status ≠ .illegal

theorem executed_okay {s u : State} (ports : u.responses = s.responses) (r0 r1 r2 r3 : Field) :
    Executed s (.next (u.respond (Response.okay r0 r1 r2 r3))) :=
  ⟨_, _, rfl, congrArg (· ++ [Response.okay r0 r1 r2 r3]) ports, Status.noConfusion, Status.noConfusion⟩

theorem executed_badOperand (s : State) (op : Byte) (info : Field) :
    Executed s (.next (s.takeFault op .badOperand info)) :=
  ⟨_, _, rfl, s.takeFault_responses op .badOperand info, Status.noConfusion, Status.noConfusion⟩

theorem executed_rdreg (a0 : Field) (s : State) : Executed s (exec (.rdreg a0) s) := by
  cases mapped : s.readReg (u64 a0) with
  | some v =>
    rw [exec_rdreg_of_mapped mapped]
    exact executed_okay rfl ..
  | none =>
    change Executed s (execRdreg a0 s)
    rw [execRdreg, mapped, command_raise (.inr rfl)]
    exact executed_badOperand ..

theorem executed_memRead (a0 a1 : Field) (s : State) : Executed s (exec (.memRead a0 a1) s) := by
  cases named : Space.ofNumber (u64 a0) with
  | some sp =>
    have number := (Space.number_of_ofNumber named).symm
    rcases Nat.lt_or_ge (u64 a1) (s.readBound sp) with inside | outside
    · rw [exec_memRead_of_inside number inside]
      exact executed_okay rfl ..
    · rw [exec_memRead_of_badAddress number outside]
      exact executed_badOperand ..
  | none =>
    change Executed s (execMemRead a0 a1 s)
    rw [execMemRead, named, command_raise (.inr rfl)]
    exact executed_badOperand ..

/-- A word of the four that the failed state accepts is executed, in every state (60_exceptions.md rule R265). -/
theorem executed_of_allowed {s : State} {w : CommandWord} {rest : List Input}
    (hs : s.inputs = .command w :: rest)
    (allowed : opBits w = 0x01 ∨ opBits w = 0x02 ∨ opBits w = 0x03 ∨ opBits w = 0x05) (rsv : rsvBits w = 0) :
    Executed s (step s) := by
  obtain number | number | number | number := allowed
  all_goals rw [step_of_spelled hs rsv number rfl]
  · rw [exec_reset]
    exact executed_okay (State.fullReset_responses _) ..
  · rw [exec_sessionReset]
    exact executed_okay (State.sessionReset_responses _) ..
  · exact executed_rdreg _ { s with inputs := rest }
  · exact executed_memRead _ _ { s with inputs := rest }

/-- Settles O7: the gate before the word is decoded, then whether it spells a command. -/
theorem refusedAndIllegalWords : Obligations.RefusedAndIllegalWords := by
  intro s w rest hs allowed
  have gate_iff : allowedWhenFailed (opBits w) = true ↔ allowed := allowedWhenFailed_iff
  refine ⟨fun failed other => ?refused, fun failed number rsv => ?reserved,
    fun _ number rsv => executed_of_allowed hs number rsv, fun running rejected => ?illegal⟩
  all_goals rw [step_of_command hs]
  case refused =>
    have gate := Bool.eq_false_iff.mpr (mt gate_iff.mp other)
    exact stepCommand_of_refused (s := { s with inputs := rest }) failed gate
  case reserved =>
    exact stepCommand_of_reserved (s := { s with inputs := rest }) failed (gate_iff.mpr number) rsv
  case illegal => exact stepCommand_of_illegal (s := { s with inputs := rest }) running rejected

/-! ### The record of the first fault -/

/-- FAILED and the error registers are in `t` as in `s`. -/
def State.SameRecord (s t : State) : Prop :=
  t.failed = s.failed ∧ t.errCause = s.errCause ∧ t.errCmd = s.errCmd ∧ t.errInfo = s.errInfo

/-- Of the commands that complete, the two resets alone touch the record (60_exceptions.md rules R264, R266). -/
theorem Effect.sameRecord {op : Byte} {s u : State} (e : Effect op s u) (other : ¬ (op = 0x01 ∨ op = 0x02)) :
    s.SameRecord u := by
  cases e with
  | reset => exact absurd (.inl rfl) other
  | sessionReset => exact absurd (.inr rfl) other
  | _ => exact ⟨by simp, by simp, by simp, by simp⟩

/-- However a command other than the resets ends in the failed state, the record stays. -/
theorem Ending.sameRecord {op : Byte} {s t : State} (e : Ending op s t) (failed : s.failed = true)
    (other : ¬ (op = 0x01 ∨ op = 0x02)) : s.SameRecord t := by
  cases e with
  | refused | endOfData => exact ⟨rfl, rfl, rfl, rfl⟩
  | completed _ u r0 r1 r2 r3 effect => exact effect.sameRecord other
  | fault _ c info =>
    rw [State.takeFault_again failed]
    exact ⟨rfl, rfl, rfl, rfl⟩

/-- Settles O8: a step that is no reset keeps the record, and a reset is spelled by its word or is the input. -/
theorem onlyResetsLeaveTheFailedState : Obligations.OnlyResetsLeaveTheFailedState := by
  intro s t failed next
  suffices kept : s.SameRecord t ∨ (∃ rest, s.inputs = .hardwareReset :: rest) ∨
      ∃ w rest, s.inputs = .command w :: rest ∧ rsvBits w = 0 ∧ (opBits w = 0x01 ∨ opBits w = 0x02) from
    kept.imp_left fun ⟨flag, record⟩ => ⟨flag.trans failed, record⟩
  obtain ⟨-, rfl⟩ | ⟨rest, reset, -⟩ | ⟨rest, r, -, rfl⟩ | ⟨w, rest, i, hs, decoded, ending⟩ |
    ⟨w, rest, e, -, -, rfl⟩ := step_cases next
  · exact .inl ⟨rfl, rfl, rfl, rfl⟩
  · exact .inr (.inl ⟨rest, reset⟩)
  · exact .inl ⟨rfl, rfl, rfl, rfl⟩
  · by_cases number : opBits w = 0x01 ∨ opBits w = 0x02
    · exact .inr (.inr ⟨w, rest, hs, (decodeCommand_eq_ok_iff.mp decoded).1, number⟩)
    · exact .inl (ending.sameRecord (s := { s with inputs := rest }) failed number)
  · obtain ⟨r, rejected⟩ := rejectWord_of_failed (s := { s with inputs := rest }) (w := w) failed
    rw [rejected]
    exact .inl ⟨rfl, rfl, rfl, rfl⟩

/-! ### The state after reset -/

/-- Settles O9: the register map line by line, and nothing listed in the code table and the cache. -/
theorem resetValues : Obligations.ResetValues := by
  refine ⟨rfl, fun p => ⟨?_, fun i => ⟨rfl, rfl⟩, State.ctEntry_of_empty rfl, rfl⟩⟩
  simp only [List.forall_mem_cons]
  repeat refine ⟨rfl, ?_⟩
  exact nofun

theorem Params.blockSize_pos {p : Params} (wellFormed : p.wellFormed = true) : 1 ≤ p.b := by
  simp only [Params.wellFormed, Bool.and_eq_true, decide_eq_true_eq, and_assoc] at wellFormed
  exact wellFormed.1

/-- No byte and no changed table entry is listed right after reset. -/
theorem State.memoryInv_resetWith (p : Params) : (State.resetWith p).MemoryInv :=
  State.memoryInv_iff.mpr ⟨fun sp => by cases sp <;> exact bytesWithin_nil _, rfl⟩

theorem State.serInv_resetWith (p : Params) : (State.resetWith p).SerInv :=
  .of_uninit rfl (fun _ => tableValid_default) (show 8 ≤ 255 by decide) rfl rfl (Nat.zero_le _)

/-- Settles O59, invariant by invariant; only the block size's bound is asked of the parameters. -/
theorem resetMeetsTheInvariants : Obligations.ResetMeetsTheInvariants := fun p wellFormed =>
  ⟨State.memoryInv_resetWith p, State.indexInv_resetWith (Params.blockSize_pos wellFormed), nofun,
    State.rangeInv_resetWith p, State.serInv_resetWith p, ⟨nofun, fun _ => ⟨rfl, rfl, rfl⟩⟩,
    State.windowReads_nil rfl rfl rfl rfl rfl rfl⟩

end Sys2Proof.Machine
